-- ==== Sys2Proof/Word.lean ====
section
/-! DEFINITION. The word types of the Empeko 4160: what the manual treats as bits. -/

namespace Sys2Proof

/-- One byte of a link or line frame. -/
abbrev Byte := BitVec 8

/-- A reading of the capture timebase, in microseconds, modulo 2^32 (R51). -/
abbrev Stamp := BitVec 32

/-- The 32-bit identifier of a vehicle (R89). -/
abbrev Tag := BitVec 32

/-- The difference of two timebase readings, the later minus the earlier, modulo 2^32 (R51). -/
def elapsed (since now : Stamp) : Nat := (now - since).toNat

end Sys2Proof
end

