-- ==== Sys2Proof/Config.lean ====
section
/-! DEFINITION. The capacities the manual fixes, and the one free value. -/

namespace Sys2Proof.Config

/-- FREE VALUE (log 8): which of the deliveries still to be made is taken next, where R10, R46 and R143
say that no order among them is specified. It has no body: nothing can be proved about it. -/
opaque nextDelivery : Nat → Nat

/-- Cell nodes are numbered 1 to 16 (00 "Names"). -/
abbrev nodeCount : Nat := 16
/-- Decks are numbered 0 to 3 (00 "Names"). -/
abbrev deckCount : Nat := 4
/-- The class A queue holds up to 24 frames (R198). -/
abbrev classACapacity : Nat := 24
/-- The directive queue holds at most 4 directives (R195). -/
abbrev directiveCapacity : Nat := 4
/-- The pending-axle queue holds at most 4 entries (R71). -/
abbrev pendingAxleCapacity : Nat := 4
/-- An axle list holds at most 12 axles (R77). -/
abbrev axleCapacity : Nat := 12
/-- The vehicle table holds up to 256 entries (R89). -/
abbrev vehicleCapacity : Nat := 256
/-- The class table has 16 entries (R97). -/
abbrev classCount : Nat := 16
/-- The open transaction table holds at most 64 entries (R129). -/
abbrev transactionCapacity : Nat := 64
/-- The ring has 32 slots (R146). -/
abbrev ringSize : Nat := 32
/-- The audit trail holds at most 48 entries (R168). -/
abbrev trailCapacity : Nat := 48
/-- An audit's point list holds at most 12 points (R178). -/
abbrev pointCapacity : Nat := 12
/-- The 16-bit counters that saturate do so at 65,535 (R9, R53, R74, R193). -/
abbrev max16 : Nat := 65535
/-- The largest 32-bit number (R140, R162, R166). -/
abbrev max32 : Nat := 4294967295

end Sys2Proof.Config
end

