-- ==== Sys2Proof/Syntax.lean ====
section
/-! DEFINITION. The commands the part takes: one constructor of `Instr` per row of spec/opcode_table.json,
and the 37 directives of R196 with their parameters as they stand on the wire (R204). -/

namespace Sys2Proof

/-- The five yard inputs, in the order of R59 and R64. -/
inductive YardInput
  | entryLoop | exitLoop | stripA | stripB | calSwitch
deriving DecidableEq, Repr

/-- The raw levels of the five yard inputs; true is asserted (occupied, pressed, closed). -/
structure RawLevels where
  entryLoop : Bool
  exitLoop : Bool
  stripA : Bool
  stripB : Bool
  calSwitch : Bool
deriving DecidableEq, Repr

/-- A character received on the cell line (R1): its data, whether its parity is even, whether its stop
bit was there. -/
structure CellChar where
  data : Byte
  parityOk : Bool
  stopOk : Bool
deriving DecidableEq, Repr

/-- A character received on the terminal link (R192): its data and whether its stop bit was there. -/
structure LinkChar where
  data : Byte
  stopOk : Bool
deriving DecidableEq, Repr

/-- The four areas of the store (R212), each with one mark (damaged, in the outcome of a check). -/
structure Areas where
  calibration : Bool
  status : Bool
  ticket : Bool
  transaction : Bool
deriving DecidableEq, Repr

/-- The seven fields of a filled class entry as PUT_CLASS carries them (R98). -/
structure ClassFields where
  minAxles : Byte
  maxAxles : Byte
  single : BitVec 32
  tandem : BitVec 32
  triple : BitVec 32
  quad : BitVec 32
  gross : BitVec 32
deriving DecidableEq, Repr

/-- A calendar time in its six bytes, the year less 2000 first (R204). -/
structure ClockFields where
  year : Byte
  month : Byte
  day : Byte
  hour : Byte
  minute : Byte
  second : Byte
deriving DecidableEq, Repr

/-- The 37 directives, in the code order of R196. Parameters are the wire's fields (R204): their values
are judged by the owners, not here (R194). -/
inductive Directive
  | start
  | halt
  | restart
  | putSite (block : List Byte)
  | readSite
  | lineTest
  | readNode (node clear : Byte)
  | zeroDeck (deck : Byte)
  | readWeight
  | setStream (interval mirror : Byte)
  | putVehicle (tag : Tag) (cls tarePresent : Byte) (tare : BitVec 32) (allowed blocked : Byte)
  | dropVehicle (tag : Tag)
  | clearVehicles
  | readVehicle (tag : Tag)
  | putClass (number filled : Byte) (fields : ClassFields)
  | readClass (number : Byte)
  | putHoldMask (mask : BitVec 64) (salt : Byte)
  | identify (tag : Tag) (kind onePass : Byte)
  | releaseHold (passage : BitVec 16) (reason : Byte)
  | abandon (passage : BitVec 16)
  | releaseTicket (number : BitVec 32)
  | fetchTicket (number : BitVec 32)
  | readTransaction (tag : Tag)
  | purgeTransaction (tag : Tag)
  | enterCal
  | setParam (identifier place : Byte) (value : BitVec 32)
  | readParam (identifier place selection : Byte)
  | commitCal
  | leaveCal
  | readTrail (from_ : BitVec 32)
  | openAudit
  | capturePoint (target : Byte) (declared : BitVec 32)
  | checkReference (cell : Byte)
  | closeAudit
  | abortAudit
  | setClock (fields : ClockFields)
  | readStatus
deriving DecidableEq, Repr

/-- The part's commands: one constructor per row of spec/opcode_table.json, in its order. `now` is the
reading of the capture timebase at which the command is taken (log 1); `ref` is the reference byte of a
directive (R196). -/
inductive Instr
  | powerOn (rate1 rate0 : Bool) (levels : RawLevels)
  | storeCheckComplete (now : Stamp) (damaged : Areas)
  | powerLoss
  | frameReceived (now : Stamp) (chars : List LinkChar)
  | frameGapTimeout (now : Stamp)
  | transmitFrameEnd (now : Stamp)
  | start (now : Stamp) (ref : Byte)
  | halt (now : Stamp) (ref : Byte)
  | haltingEnd (now : Stamp)
  | restart (now : Stamp) (ref : Byte)
  | putSite (now : Stamp) (ref : Byte) (block : List Byte)
  | readSite (now : Stamp) (ref : Byte)
  | lineTest (now : Stamp) (ref : Byte)
  | lineTestComplete (now : Stamp) (back : List (Option CellChar))
  | readNode (now : Stamp) (ref node clear : Byte)
  | zeroDeck (now : Stamp) (ref deck : Byte)
  | zeroDeckAll (now : Stamp) (ref : Byte)
  | readWeight (now : Stamp) (ref : Byte)
  | setStream (now : Stamp) (ref interval mirror : Byte)
  | putVehicle (now : Stamp) (ref : Byte) (tag : Tag) (cls tarePresent : Byte) (tare : BitVec 32) (allowed blocked : Byte)
  | dropVehicle (now : Stamp) (ref : Byte) (tag : Tag)
  | clearVehicles (now : Stamp) (ref : Byte)
  | readVehicle (now : Stamp) (ref : Byte) (tag : Tag)
  | putClass (now : Stamp) (ref number filled : Byte) (fields : ClassFields)
  | readClass (now : Stamp) (ref number : Byte)
  | putHoldMask (now : Stamp) (ref : Byte) (mask : BitVec 64) (salt : Byte)
  | identify (now : Stamp) (ref : Byte) (tag : Tag) (kind onePass : Byte)
  | releaseHold (now : Stamp) (ref : Byte) (passage : BitVec 16) (reason : Byte)
  | abandon (now : Stamp) (ref : Byte) (passage : BitVec 16)
  | releaseTicket (now : Stamp) (ref : Byte) (number : BitVec 32)
  | fetchTicket (now : Stamp) (ref : Byte) (number : BitVec 32)
  | readTransaction (now : Stamp) (ref : Byte) (tag : Tag)
  | purgeTransaction (now : Stamp) (ref : Byte) (tag : Tag)
  | enterCal (now : Stamp) (ref : Byte)
  | setParam (now : Stamp) (ref identifier place : Byte) (value : BitVec 32)
  | readParam (now : Stamp) (ref identifier place selection : Byte)
  | commitCal (now : Stamp) (ref : Byte)
  | leaveCal (now : Stamp) (ref : Byte)
  | readTrail (now : Stamp) (ref : Byte) (from_ : BitVec 32)
  | openAudit (now : Stamp) (ref : Byte)
  | capturePoint (now : Stamp) (ref target : Byte) (declared : BitVec 32)
  | checkReference (now : Stamp) (ref cell : Byte)
  | referenceCheckTimeout (now : Stamp)
  | closeAudit (now : Stamp) (ref : Byte)
  | abortAudit (now : Stamp) (ref : Byte)
  | setClock (now : Stamp) (ref : Byte) (fields : ClockFields)
  | readStatus (now : Stamp) (ref : Byte)
  | clockSecond (now : Stamp)
  | scanTimerExpiry (now : Stamp)
  | replyWindowEnd (now : Stamp) (received : List CellChar)
  | nodeLost (now : Stamp) (node : Nat)
  | lineBreak (now : Stamp) (received : List CellChar)
  | lineRestored (now : Stamp)
  | deckFault (now : Stamp) (deck : Nat)
  | zeroTrackCorrection (now : Stamp) (deck : Nat)
  | streamOffer (now : Stamp)
  | warmupEnd (now : Stamp)
  | rawTransition (now : Stamp) (input : YardInput) (asserted : Bool)
  | filterAccept (now : Stamp) (input : YardInput)
  | settlingComplete (now : Stamp) (input : YardInput)
  | captureTimeout (now : Stamp)
  | pairingExpiry (now : Stamp)
  | storeUpdateComplete (now : Stamp)
  | storeUpdateFailed (now : Stamp)
  | characterReceived (now : Stamp) (char : LinkChar)
deriving DecidableEq, Repr

end Sys2Proof
end

