-- ==== Sys2Proof/WellFormed.lean ====
section
/-! DEFINITION. Which commands are well formed: the bounds the manual puts on an operand's form. A
directive's parameter values are judged by its owner and answered with BAD_VALUE, so they are no matter of
form (R194). -/

namespace Sys2Proof

/-- A directive's form: the site-settings block is 25 bytes (11 "Site settings"); every other directive's
fields have fixed widths. -/
def Directive.wellFormed : Directive → Bool
  | .putSite block => block.length == 25
  | _ => true

/-- A command's form: the site block's length, the 48 characters of the line test (R17), node and deck
numbers (00 "Names"), and the longest run of characters that a frame can have after its SYNC's arrival
(R193: SYNC, LEN, TYPE, 250 payload bytes and two CRC bytes). -/
def Instr.wellFormed : Instr → Bool
  | .putSite _ _ block => block.length == 25
  | .lineTestComplete _ back => back.length == 48
  | .nodeLost _ node => 1 ≤ node && node ≤ Config.nodeCount
  | .deckFault _ deck => deck < Config.deckCount
  | .zeroTrackCorrection _ deck => deck < Config.deckCount
  | .frameReceived _ chars => chars.length ≤ 255
  | _ => true

end Sys2Proof
end

