-- ==== Sys2Proof/Decode.lean ====
section
/-! DEFINITION. Words and bytes as commands. The table gives no row any bits, so no word spells a command;
the directives, which the manual does lay out in bytes (R196, R204), are parsed from and laid out as the
payload of a DIRECTIVE frame here. -/

namespace Sys2Proof

/-- The command a word spells by the table's bits: the rows of spec/opcode_table.json give no bits, so no
word spells one. -/
def decodeTableWord (_nbits _w : Nat) : Option Instr := none

/-- Four bytes as a 32-bit field, most significant first (R204). -/
def word32 (a b c d : Byte) : BitVec 32 := a ++ b ++ c ++ d

/-- Eight bytes as a 64-bit field, most significant first (R204). -/
def word64 (a b c d e f g h : Byte) : BitVec 64 := a ++ b ++ c ++ d ++ e ++ f ++ g ++ h

/-- The n bytes of a field of 8n bits, most significant first (R204). -/
def fieldBytes {w : Nat} (x : BitVec w) : Nat → List Byte
  | 0 => []
  | n + 1 => x.extractLsb' (8 * n) 8 :: fieldBytes x n

/-- A directive's code, 01h to 25h in the order of R196's table. -/
def Directive.code : Directive → Byte
  | .start => 0x01
  | .halt => 0x02
  | .restart => 0x03
  | .putSite _ => 0x04
  | .readSite => 0x05
  | .lineTest => 0x06
  | .readNode .. => 0x07
  | .zeroDeck _ => 0x08
  | .readWeight => 0x09
  | .setStream .. => 0x0A
  | .putVehicle .. => 0x0B
  | .dropVehicle _ => 0x0C
  | .clearVehicles => 0x0D
  | .readVehicle _ => 0x0E
  | .putClass .. => 0x0F
  | .readClass _ => 0x10
  | .putHoldMask .. => 0x11
  | .identify .. => 0x12
  | .releaseHold .. => 0x13
  | .abandon _ => 0x14
  | .releaseTicket _ => 0x15
  | .fetchTicket _ => 0x16
  | .readTransaction _ => 0x17
  | .purgeTransaction _ => 0x18
  | .enterCal => 0x19
  | .setParam .. => 0x1A
  | .readParam .. => 0x1B
  | .commitCal => 0x1C
  | .leaveCal => 0x1D
  | .readTrail _ => 0x1E
  | .openAudit => 0x1F
  | .capturePoint .. => 0x20
  | .checkReference _ => 0x21
  | .closeAudit => 0x22
  | .abortAudit => 0x23
  | .setClock _ => 0x24
  | .readStatus => 0x25

/-- A directive's parameters in bytes, in the order its rule names them (R204). -/
def Directive.params : Directive → List Byte
  | .putSite block => block
  | .readNode node clear => [node, clear]
  | .zeroDeck deck => [deck]
  | .setStream interval mirror => [interval, mirror]
  | .putVehicle tag cls tarePresent tare allowed blocked =>
    fieldBytes tag 4 ++ [cls, tarePresent] ++ fieldBytes tare 4 ++ [allowed, blocked]
  | .dropVehicle tag | .readVehicle tag | .readTransaction tag | .purgeTransaction tag => fieldBytes tag 4
  | .putClass number filled f =>
    [number, filled, f.minAxles, f.maxAxles] ++ fieldBytes f.single 4 ++ fieldBytes f.tandem 4 ++
      fieldBytes f.triple 4 ++ fieldBytes f.quad 4 ++ fieldBytes f.gross 4
  | .readClass number => [number]
  | .putHoldMask mask salt => fieldBytes mask 8 ++ [salt]
  | .identify tag kind onePass => fieldBytes tag 4 ++ [kind, onePass]
  | .releaseHold passage reason => fieldBytes passage 2 ++ [reason]
  | .abandon passage => fieldBytes passage 2
  | .releaseTicket number | .fetchTicket number | .readTrail number => fieldBytes number 4
  | .setParam identifier place value => [identifier, place] ++ fieldBytes value 4
  | .readParam identifier place selection => [identifier, place, selection]
  | .capturePoint target declared => [target] ++ fieldBytes declared 4
  | .checkReference cell => [cell]
  | .setClock c => [c.year, c.month, c.day, c.hour, c.minute, c.second]
  | .start | .halt | .restart | .readSite | .lineTest | .readWeight | .clearVehicles | .enterCal | .commitCal
  | .leaveCal | .openAudit | .closeAudit | .abortAudit | .readStatus => []

/-- The payload of a directive frame: code, reference, parameters (R204). -/
def encodeDirective (ref : Byte) (d : Directive) : List Byte := d.code :: ref :: d.params

/-- The code is one of the 37 of R196's table. -/
def knownCode (code : Byte) : Bool := 0x01 ≤ code && code ≤ 0x25

/-- The directive of a known code and its parameter bytes; none where their number differs from the
directive's layout (R194 row 2, R204). -/
def parseParams (code : Nat) (params : List Byte) : Option Directive :=
  match code, params with
  | 0x01, [] => some .start
  | 0x02, [] => some .halt
  | 0x03, [] => some .restart
  | 0x04, block => if block.length == 25 then some (.putSite block) else none
  | 0x05, [] => some .readSite
  | 0x06, [] => some .lineTest
  | 0x07, [node, clear] => some (.readNode node clear)
  | 0x08, [deck] => some (.zeroDeck deck)
  | 0x09, [] => some .readWeight
  | 0x0A, [interval, mirror] => some (.setStream interval mirror)
  | 0x0B, [t3, t2, t1, t0, cls, present, w3, w2, w1, w0, allowed, blocked] =>
    some (.putVehicle (word32 t3 t2 t1 t0) cls present (word32 w3 w2 w1 w0) allowed blocked)
  | 0x0C, [t3, t2, t1, t0] => some (.dropVehicle (word32 t3 t2 t1 t0))
  | 0x0D, [] => some .clearVehicles
  | 0x0E, [t3, t2, t1, t0] => some (.readVehicle (word32 t3 t2 t1 t0))
  | 0x0F, [number, filled, lo, hi, a3, a2, a1, a0, b3, b2, b1, b0, c3, c2, c1, c0, d3, d2, d1, d0, e3, e2, e1, e0] =>
    some (.putClass number filled ⟨lo, hi, word32 a3 a2 a1 a0, word32 b3 b2 b1 b0, word32 c3 c2 c1 c0,
      word32 d3 d2 d1 d0, word32 e3 e2 e1 e0⟩)
  | 0x10, [number] => some (.readClass number)
  | 0x11, [m7, m6, m5, m4, m3, m2, m1, m0, salt] => some (.putHoldMask (word64 m7 m6 m5 m4 m3 m2 m1 m0) salt)
  | 0x12, [t3, t2, t1, t0, kind, onePass] => some (.identify (word32 t3 t2 t1 t0) kind onePass)
  | 0x13, [p1, p0, reason] => some (.releaseHold (p1 ++ p0) reason)
  | 0x14, [p1, p0] => some (.abandon (p1 ++ p0))
  | 0x15, [n3, n2, n1, n0] => some (.releaseTicket (word32 n3 n2 n1 n0))
  | 0x16, [n3, n2, n1, n0] => some (.fetchTicket (word32 n3 n2 n1 n0))
  | 0x17, [t3, t2, t1, t0] => some (.readTransaction (word32 t3 t2 t1 t0))
  | 0x18, [t3, t2, t1, t0] => some (.purgeTransaction (word32 t3 t2 t1 t0))
  | 0x19, [] => some .enterCal
  | 0x1A, [identifier, place, v3, v2, v1, v0] => some (.setParam identifier place (word32 v3 v2 v1 v0))
  | 0x1B, [identifier, place, selection] => some (.readParam identifier place selection)
  | 0x1C, [] => some .commitCal
  | 0x1D, [] => some .leaveCal
  | 0x1E, [n3, n2, n1, n0] => some (.readTrail (word32 n3 n2 n1 n0))
  | 0x1F, [] => some .openAudit
  | 0x20, [target, w3, w2, w1, w0] => some (.capturePoint target (word32 w3 w2 w1 w0))
  | 0x21, [cell] => some (.checkReference cell)
  | 0x22, [] => some .closeAudit
  | 0x23, [] => some .abortAudit
  | 0x24, [year, month, day, hour, minute, second] => some (.setClock ⟨year, month, day, hour, minute, second⟩)
  | 0x25, [] => some .readStatus
  | _, _ => none

/-- What a DIRECTIVE frame's payload is judged as (R194 rows 1 and 2). -/
inductive Judged
  | unknown (ref code : Byte)
  | malformed (ref code : Byte)
  | directive (ref : Byte) (d : Directive)
deriving DecidableEq, Repr

/-- Judges a payload: an unknown code first, then a wrong length. A payload of one byte carries no reference and is
MALFORMED with reference 00h, whatever its code (R194, log 20). An empty payload does not occur (LEN is at least 1); it
has code 00h. -/
def judgePayload (payload : List Byte) : Judged :=
  match payload with
  | [] => .unknown 0 0
  | [code] => .malformed 0 code
  | code :: ref :: params =>
    if knownCode code then
      match parseParams code.toNat params with
      | some d => .directive ref d
      | none => .malformed ref code
    else .unknown ref code

end Sys2Proof
end

