-- ==== Sys2Proof/Machine/State.lean ====
section
/-! DEFINITION. The state of the part, block by block (00 "What the 4160 does, block by block"), as plain
data; the frames it sends; the reasons a step can stop (none); and the state after reset. -/

namespace Sys2Proof.Machine

/-! ## Calendar Clock -/

/-- A calendar time, year 2000 to 2099 (R211). -/
structure CalTime where
  year : Nat
  month : Nat
  day : Nat
  hour : Nat
  minute : Nat
  second : Nat
deriving DecidableEq, Repr

/-- The Calendar Clock's state (R211). -/
structure Cck where
  time : CalTime
  isSet : Bool
deriving DecidableEq, Repr

/-! ## Calibration set (R155) -/

/-- The five parameters of a cell (R155): OFFSET, GAIN, CORNER, REF_COUNT, REF_TOLERANCE. -/
structure CellCal where
  offset : Int
  gain : Nat
  corner : Nat
  refCount : Int
  refTolerance : Nat
deriving DecidableEq, Repr, Inhabited

/-- The three parameters of a deck (R155): CELL_MASK (node n is bit n − 1), IN_BRIDGE, ZERO_CAL. -/
structure DeckCal where
  mask : BitVec 16
  inBridge : Bool
  zeroCal : Int
deriving DecidableEq, Repr, Inhabited

/-- A calibration set of 100 parameters (R155). `maxLoad` is Max, `division` d, `filterLength` N,
`stabilityWindow` M, `motionBand` B, `zeroTrackWindow` ZT. -/
structure CalSet where
  maxLoad : Nat
  division : Nat
  filterLength : Nat
  stabilityWindow : Nat
  motionBand : Nat
  zeroTrackWindow : Nat
  warmupLength : Nat
  padDeck : Bool
  decks : List DeckCal
  cells : List CellCal
deriving DecidableEq, Repr, Inhabited

/-- The global parameters, in the order of R155. -/
inductive GlobalParam
  | maxLoad | division | filterLength | stabilityWindow | motionBand | zeroTrackWindow | warmupLength | padDeck
deriving DecidableEq, Repr

/-- The deck parameters, in the order of R155. -/
inductive DeckParam
  | cellMask | inBridge | zeroCal
deriving DecidableEq, Repr

/-- The cell parameters, in the order of R155. -/
inductive CellParam
  | offset | gain | corner | refCount | refTolerance
deriving DecidableEq, Repr

/-- A parameter identifier with its deck number 0 to 3 or cell number 1 to 16 (R155). -/
inductive ParamId
  | global (p : GlobalParam)
  | deck (p : DeckParam) (deck : Nat)
  | cell (p : CellParam) (cell : Nat)
deriving DecidableEq, Repr

/-- An audit trail entry: the six fields of R163. -/
structure TrailEntry where
  sequence : Nat
  calCount : Nat
  param : ParamId
  oldValue : Int
  newValue : Int
  time : CalTime
deriving DecidableEq, Repr

/-- The Calibration Unit's volatile state: the staged set while calibration mode is on (R158), and the
opening of CAL_SWITCH recorded during a commit update (R163, R167). -/
structure Clu where
  staged : Option CalSet
  openingRecorded : Bool
deriving DecidableEq, Repr

/-! ## Cell Line Controller -/

/-- The eight error kinds, in the order of R7. -/
inductive CellError
  | timeout | parity | framing | length | check | address | stale | excitation
deriving DecidableEq, Repr

/-- The states of a node record (01 "Node records"). -/
inductive NodeState
  | unassigned | searching | live | suspect | lost
deriving DecidableEq, Repr, Inhabited

/-- A node's commanded mode (R14). -/
inductive NodeMode
  | normal | reference
deriving DecidableEq, Repr, Inhabited

/-- A node record (01 "Node records"). `missed` is the manual's f. -/
structure NodeRecord where
  state : NodeState
  missed : Nat
  lastError : Option CellError
  errorCount : Nat
  lastSequence : Option Nat
  mode : NodeMode
  delivered : Bool
deriving DecidableEq, Repr, Inhabited

/-- The state of the cell line (R12, R13); `broken` is the manual's BREAK. -/
inductive LineState
  | normal | broken
deriving DecidableEq, Repr

/-- The commands of a poll frame (R2). -/
inductive PollCommand
  | sample | reference | normal
deriving DecidableEq, Repr

/-- A cell's sample slot (R5, R8, R10). -/
inductive Slot
  | awaiting
  | sample (count : Int) (overRange : Bool)
  | withheld
  | missing (error : CellError)
  | notPolled
deriving DecidableEq, Repr

/-- The outcome shown in a mirror entry (R19). -/
inductive AttemptOutcome
  | valid
  | error (kind : CellError)
  | notPolled
deriving DecidableEq, Repr

/-- An entry of a SAMPLE frame (R19). -/
structure MirrorEntry where
  node : Nat
  attempt : Option Nat
  outcome : AttemptOutcome
  status : Option Byte
  count : Option (BitVec 24)
deriving DecidableEq, Repr

/-- A scan in progress (R5, R6): its number, the nodes still to be settled (the first is being polled), the
slots of the cells, the mirror entries in order, and the reference counts gathered (R10). -/
structure Scan where
  number : BitVec 32
  todo : List Nat
  slots : List (Nat × Slot)
  entries : List MirrorEntry
  references : List (Nat × Int)
deriving DecidableEq, Repr

/-- A poll whose reply window is open (R1, R6): attempt 1 or 2, and the command it carried (R14). -/
structure Attempt where
  node : Nat
  number : Nat
  command : PollCommand
deriving DecidableEq, Repr

/-- The Cell Line Controller's state (R3 to R21). `haltTodo` lists the nodes HALT has still to tell NORMAL
after the open attempt (R16). -/
structure Clc where
  nodes : List NodeRecord
  line : LineState
  scanNumber : BitVec 32
  scanTimer : Option Stamp
  scan : Option Scan
  scanPending : Bool
  attempt : Option Attempt
  haltTodo : List Nat
  lineTest : Bool
deriving DecidableEq, Repr

/-! ## Weighing Engine -/

/-- The four states of a configured deck (R29). -/
inductive DeckState
  | noZero | valid | held | fault
deriving DecidableEq, Repr, Inhabited

/-- A configured deck (02). `zero` is z, `initialZero` z_init, `value` F, `hold` h. -/
structure Deck where
  zero : Int
  initialZero : Option Int
  filter : List Int
  stability : List Int
  value : Option Int
  hold : Nat
  faulted : Bool
  state : DeckState
  stable : Bool
  overFlag : Bool
  trackRun : Nat
  zeroLimit : Bool
deriving DecidableEq, Repr, Inhabited

/-- The bridge range (R43). -/
inductive BridgeRange
  | inRange | underRange | overRange
deriving DecidableEq, Repr

/-- A configured deck as the bridge weight record shows it (R46). `indication` is W_deck. -/
structure DeckView where
  inBridge : Bool
  state : DeckState
  value : Option Int
  indication : Option Int
  stable : Bool
  overFlag : Bool
  zeroLimit : Bool
deriving DecidableEq, Repr

/-- The bridge weight record (R46); a deck that is not configured is absent. `weight` is W in kg. -/
structure WeightRecord where
  scan : BitVec 32
  calCount : Nat
  decks : List (Option DeckView)
  weight : Int
  range : BridgeRange
  valid : Bool
  stable : Bool
  test : Bool
  warmup : Bool
deriving DecidableEq, Repr

/-- The Weighing Engine's state (R22 to R50): decks 0 to 3, absent when not configured. -/
structure Wge where
  decks : List (Option Deck)
  latest : Option WeightRecord
  streamCount : Nat
deriving DecidableEq, Repr

/-! ## Yard Line Unit -/

/-- A level and a timestamp (R52, R55); true is asserted. -/
structure LevelMark where
  level : Bool
  stamp : Stamp
deriving DecidableEq, Repr

/-- An input filter (03 "Input filters"): the raw level, the accepted level (absent is UNSETTLED), the
settling interval of R55, the candidate, the last change record and the chatter count. -/
structure InputFilter where
  raw : Bool
  accepted : Option Bool
  settling : Option LevelMark
  candidate : Option LevelMark
  last : Option LevelMark
  chatter : Nat
deriving DecidableEq, Repr

/-- The conditions the owners have told the YLU (R60 to R62). -/
structure LightConditions where
  running : Bool
  verified : Bool
  clockSet : Bool
  noAudit : Bool
  calibrationOff : Bool
  passageIdle : Bool
  slotFree : Bool
  storeClear : Bool
  exitOpen : Bool
deriving DecidableEq, Repr

/-- The Yard Line Unit's state (R51 to R64). -/
structure Ylu where
  timebase : Stamp
  entryLoop : InputFilter
  exitLoop : InputFilter
  stripA : InputFilter
  stripB : InputFilter
  calSwitch : InputFilter
  conditions : LightConditions
  entryGreen : Bool
  exitGreen : Bool
  exitBarrier : Bool
deriving DecidableEq, Repr

/-! ## Axle Monitor -/

/-- The direction of an open pairing (04 "Strip pairing"). -/
inductive PairingDirection
  | forward | reverse
deriving DecidableEq, Repr

/-- An open pairing (04 "Strip pairing"). -/
structure Pairing where
  direction : PairingDirection
  stamp : Stamp
deriving DecidableEq, Repr

/-- The causes of STRIP_FAULT, in the order of R69. -/
inductive StripCause
  | aExpired | bExpired | repeatedA | repeatedB | simultaneous
deriving DecidableEq, Repr

/-- An entry of the pending-axle queue (R71). `crossing` is t_A. -/
structure PendingAxle where
  crossing : Option Stamp
  speed : Option Nat
  onPad : Bool
  padOnly : Bool
deriving DecidableEq, Repr

/-- The pad's state (R72). -/
inductive PadState
  | unknown | inactive | active
deriving DecidableEq, Repr

/-- A dwell in progress (R73, R74); a dwell that is not detached belongs to the oldest queue entry. -/
structure Dwell where
  count : Nat
  sum : Int
  first : List Int
  latest : List Int
  detached : Bool
deriving DecidableEq, Repr

/-- The flags of an axle record (R77). -/
structure AxleFlags where
  fast : Bool
  noPad : Bool
  shortDwell : Bool
  padOnly : Bool
  resting : Bool
deriving DecidableEq, Repr

/-- An axle record (R77); the index is absent in an UNRECORDED frame (R78). -/
structure AxleRecord where
  index : Option Nat
  crossing : Option Stamp
  speed : Option Nat
  spacing : Option Nat
  load : Option Int
  dwellCount : Nat
  flags : AxleFlags
  group : Option Nat
deriving DecidableEq, Repr

/-- A group's kind (R82). -/
inductive GroupKind
  | single | tandem | triple | quad | unrated
deriving DecidableEq, Repr

/-- The judgement of a group and the passage verdict (R83, R84). -/
inductive Verdict
  | ok | exceeded | unrated
deriving DecidableEq, Repr

/-- A judged group (R82, R83): the axles' indices, its load and excess when it was judged. -/
structure AxleGroup where
  kind : GroupKind
  axles : List Nat
  load : Option Int
  excess : Option Int
  verdict : Verdict
deriving DecidableEq, Repr

/-- The axle summary (R84). -/
structure AxleSummary where
  axleCount : Nat
  groupCount : Nat
  verdict : Verdict
  worstExcess : Option Int
deriving DecidableEq, Repr

/-- The axle result the AXM hands the PSU (R86). -/
structure AxleResult where
  groups : List AxleGroup
  summary : AxleSummary
  axleCountFlag : Bool
  grossOver : Bool
deriving DecidableEq, Repr

/-- The Axle Monitor's state (R65 to R88). -/
structure Axm where
  checking : Bool
  pairing : Option Pairing
  queue : List PendingAxle
  pad : PadState
  dwell : Option Dwell
  padIgnore : Bool
  afterReverse : Bool
  list : List AxleRecord
  overflow : Bool
  final : Bool
  result : Option AxleResult
deriving DecidableEq, Repr

/-! ## Vehicle Table Block -/

/-- A vehicle entry (R89). -/
structure Vehicle where
  tag : Tag
  cls : Nat
  tare : Option Nat
  presetAllowed : Bool
  blocked : Bool
deriving DecidableEq, Repr

/-- A filled class entry (R97). -/
structure ClassEntry where
  minAxles : Nat
  maxAxles : Nat
  single : Nat
  tandem : Nat
  triple : Nat
  quad : Nat
  gross : Nat
deriving DecidableEq, Repr

/-- The Vehicle Table Block's state (R89, R97, R99). The vehicles are kept by rising tag (log 21). -/
structure Vtb where
  vehicles : List Vehicle
  classes : List (Option ClassEntry)
  mask : BitVec 64
  salt : BitVec 6
deriving DecidableEq, Repr

/-- The result of a tag lookup (R95). -/
structure Lookup where
  listed : Bool
  cls : Option Nat
  tare : Option Nat
  tareOffDivision : Bool
  presetAllowed : Bool
  blocked : Bool
  index : BitVec 6
  probe : Bool
deriving DecidableEq, Repr

/-! ## Passage Unit -/

/-- The states of a passage (R103); no record is IDLE. -/
inductive PassageState
  | arriving | onBridge | captured | issuing | done | leaving | clearing
deriving DecidableEq, Repr

/-- The transaction kind (R117). -/
inductive TransactionKind
  | receival | dispatch
deriving DecidableEq, Repr

/-- The nine hold reasons, in the order of R120. -/
inductive HoldReason
  | unlisted | blocked | probe | overload | unstable | tableFull | ringBlocked | notVerified | storeFault
deriving DecidableEq, Repr

/-- The bound identity of a passage (R103, R118): tag, kind, one-pass request and the fields copied from
the lookup. -/
structure Identity where
  tag : Tag
  kind : TransactionKind
  onePass : Bool
  listed : Bool
  cls : Option Nat
  tare : Option Nat
  presetAllowed : Bool
  tareOffDivision : Bool
deriving DecidableEq, Repr

/-- A capture (R103, R115). `weight` is W in kg. -/
structure Capture where
  weight : Int
  scan : BitVec 32
  stamp : Stamp
  time : CalTime
  calCount : Nat
deriving DecidableEq, Repr

/-- The passage record (R103). The hold set lists each reason at most once, in the order of R120. -/
structure Passage where
  number : BitVec 16
  state : PassageState
  intruder : Bool
  runThrough : Bool
  identity : Option Identity
  capture : Option Capture
  axles : Option AxleResult
  holds : List HoldReason
  ticket : Option (BitVec 32)
deriving DecidableEq, Repr

/-- The Passage Unit's state (R103, R104, R116). -/
structure Psu where
  passage : Option Passage
  counter : BitVec 16
  captureTimer : Option Stamp
deriving DecidableEq, Repr

/-- The causes of a PASSAGE report, in the order of R126. -/
inductive PassageCause
  | entered | on | backedOut | capture | bound | holdChange | issueStarted | issueFailed | posted
  | runThrough | exit | vanished | intruderLeft | abandoned | left | cleared | halt
deriving DecidableEq, Repr

/-- The conditions of capture, in the order of R115. -/
inductive CaptureCondition
  | running | valid | stable | notTest | inRange | heavy
deriving DecidableEq, Repr

/-! ## Tickets and the store -/

/-- The type of a weighing ticket, in the order of R139. -/
inductive TicketType
  | first | second | onePass
deriving DecidableEq, Repr

/-- The source of a ticket's tare (R137). -/
inductive TareSource
  | weighed | preset
deriving DecidableEq, Repr

/-- The flags of a ticket (R138). -/
structure TicketFlags where
  negativeNet : Bool
  generationChanged : Bool
  axleOver : Bool
  grossOver : Bool
  axleCount : Bool
  probe : Bool
  runThrough : Bool
deriving DecidableEq, Repr

/-- The first pass carried on a SECOND ticket (R139). -/
structure FirstPass where
  weight : Int
  number : BitVec 32
  time : CalTime
deriving DecidableEq, Repr

/-- The body of a FIRST, SECOND or ONE_PASS ticket (R139). -/
structure WeighTicket where
  type : TicketType
  tag : Tag
  kind : TransactionKind
  weight : Int
  firstPass : Option FirstPass
  tareSource : Option TareSource
  net : Option Int
  axles : Option AxleSummary
  passage : BitVec 16
  flags : TicketFlags
deriving DecidableEq, Repr

/-- The fail causes of an audit, in the order of R186. -/
inductive FailCause
  | noZeroPoint | tooFewLoads | pointFailed
deriving DecidableEq, Repr

/-- The audit summary (R186). -/
structure AuditSummary where
  pass : Bool
  causes : List FailCause
  pointCount : Nat
  passCount : Nat
  failCount : Nat
  worstError : Option Int
  opening : Option CalTime
deriving DecidableEq, Repr

/-- What a ticket holds beside its number, time and calibration count (R139). -/
inductive TicketBody
  | weighing (w : WeighTicket)
  | audit (a : AuditSummary)
deriving DecidableEq, Repr

/-- A ticket or certificate record (R139). -/
structure Ticket where
  number : BitVec 32
  time : CalTime
  calCount : Nat
  body : TicketBody
deriving DecidableEq, Repr

/-- An entry of the open transaction table (R129). -/
structure OpenEntry where
  tag : Tag
  kind : TransactionKind
  firstNumber : BitVec 32
  firstWeight : Int
  firstTime : CalTime
  calCount : Nat
  verdict : Option Verdict
deriving DecidableEq, Repr

/-- The reasons against trade, in the order of R173. -/
inductive TradeReason
  | neverVerified | calibrationChanged | auditFailed | zeroLimit | storeFault
deriving DecidableEq, Repr

/-- The calibration area of the store (R212). -/
structure CalArea where
  set : CalSet
  count : Nat
  trail : List TrailEntry
  newest : Nat
  mark : Nat
deriving DecidableEq, Repr

/-- The ticket area of the store (R212): a FREE slot is absent. -/
structure TicketArea where
  next : BitVec 32
  ring : List (Option Ticket)
  fill : Nat
deriving DecidableEq, Repr

/-- The transaction area of the store (R212). The table is kept by rising tag (log 21). -/
structure TransactionArea where
  table : List OpenEntry
  firstCount : Nat
  secondCount : Nat
  purgeCount : Nat
deriving DecidableEq, Repr

/-- The nonvolatile store (R212). -/
structure Store where
  calibration : CalArea
  reasons : List TradeReason
  ticket : TicketArea
  transaction : TransactionArea
deriving DecidableEq, Repr

/-- What a ticket's update does to the open transaction table (R141). -/
inductive TableChange
  | insert (entry : OpenEntry)
  | remove (tag : Tag)
  | keep
deriving DecidableEq, Repr

/-- A store update (R212): a ticket (R141; `passage` is the passage to be told of its end, absent after
RESTART, log 17), a certificate (R151, R187), a release (R148), a purge (R131), a commit (R163) or a
reason update (R175). -/
inductive Update
  | ticket (record : Ticket) (change : TableChange) (passage : Option (BitVec 16))
  | certificate (record : Ticket) (pass : Bool) (mark : Nat)
  | release (number : BitVec 32)
  | purge (tag : Tag)
  | commit (set : CalSet) (entries : List TrailEntry)
  | reason
deriving DecidableEq, Repr

/-- The producers of store updates (R212). -/
inductive Producer
  | tku | clu | vfu
deriving DecidableEq, Repr

/-- The Store Controller's state (R212 to R215): the oldest update of the queue is the one being written. -/
structure Stc where
  store : Store
  queue : List Update
  fault : Bool
  damaged : Areas
  checking : Bool
deriving DecidableEq, Repr

/-! ## Verification Unit -/

/-- The target of a load point (R178). -/
inductive PointTarget
  | deck (n : Nat)
  | bridge
deriving DecidableEq, Repr

/-- A load point's own fields (R178, R180, R181): kg, then units of 0.1 kg. -/
structure LoadPoint where
  target : PointTarget
  declared : Nat
  reading : Int
  error : Int
  mpe : Nat
deriving DecidableEq, Repr

/-- A reference point's own fields (R178, R184). -/
structure ReferencePoint where
  cell : Nat
  samples : Nat
  mean : Option Int
  refCount : Int
  tolerance : Nat
  difference : Option Int
  noReference : Bool
deriving DecidableEq, Repr

/-- The kinds of point (R178). -/
inductive PointBody
  | load (p : LoadPoint)
  | reference (p : ReferencePoint)
deriving DecidableEq, Repr

/-- A point of the list (R178). -/
structure Point where
  index : Nat
  pass : Bool
  body : PointBody
deriving DecidableEq, Repr

/-- A reference check in flight (R182). -/
structure ReferenceCheck where
  cell : Nat
  samples : Nat
  sum : Int
  handoffs : Nat
deriving DecidableEq, Repr

/-- The audit session record (R178). -/
structure Session where
  opening : Option CalTime
  points : List Point
  check : Option ReferenceCheck
deriving DecidableEq, Repr

/-- The Verification Unit's volatile state (R173, R175, R178). -/
structure Vfu where
  session : Option Session
  zeroLimitPending : Bool
deriving DecidableEq, Repr

/-! ## Run Control -/

/-- The run states (11 "Run states"). -/
inductive RunState
  | halted | warmup | run | halting
deriving DecidableEq, Repr

/-- The site settings, in the units of 11 "Site settings". -/
structure Site where
  scanPeriod : Nat
  replyWindow : Nat
  lostLimit : Nat
  holdLimit : Nat
  loopFilter : Nat
  stripFilter : Nat
  stripSpacing : Nat
  pairingWindow : Nat
  speedLimit : Nat
  padOn : Nat
  padOff : Nat
  trim : Nat
  minDwell : Nat
  groupGap : Nat
  captureTimeout : Nat
  admitUnlisted : Bool
  overloadHold : Bool
deriving DecidableEq, Repr

/-- Run Control's state (R207). -/
structure Rnc where
  runState : RunState
  warmupCount : Nat
  warmupLength : Nat
  site : Site
deriving DecidableEq, Repr

/-! ## Frames -/

/-- The causes of STORE_FAULT (R214, R215). -/
inductive StoreCause
  | writeFailed (producer : Producer)
  | damaged (areas : Areas)
  | numbersSpent
deriving DecidableEq, Repr

/-- The causes of TRADE_STATUS_CHANGED, in the order of R176. -/
inductive TradeCause
  | commit | zeroLimit | storeFault | auditPass | auditFail | powerOn
deriving DecidableEq, Repr

/-- The events with their fields, in the order of R197. -/
inductive Event
  | nodeLost (node : Nat)
  | nodeRecovered (node : Nat)
  | lineBreak
  | lineRestored
  | scanOverrun (number : BitVec 32)
  | deckFault (deck : Nat)
  | deckRecovered (deck : Nat)
  | zeroLimit (deck : Nat)
  | stripFault (passage : BitVec 16) (cause : StripCause) (opened : Stamp)
  | captureTimeout (passage : BitVec 16) (failed : List CaptureCondition)
  | runThrough (passage : BitVec 16) (state : PassageState) (loop : Stamp)
  | lineChange (input : YardInput) (level : Bool) (stamp : Stamp)
  | calSwitchOpened (discarded : Nat)
  | tradeStatusChanged (verified : Bool) (reasons : List TradeReason) (zeroLimitPending : Bool) (cause : TradeCause)
  | storeFault (cause : StoreCause)
  | runStateChanged (before after : RunState)
deriving DecidableEq, Repr

/-- The markers of an AXLE frame, in the order of R78. -/
inductive AxleMarker
  | closed | removed | unrecorded
deriving DecidableEq, Repr

/-- A PASSAGE report (R126): absent states are IDLE; the record carries the other fields. -/
structure PassageReport where
  after : Option PassageState
  before : Option PassageState
  cause : PassageCause
  record : Passage
  stamp : Option Stamp
deriving DecidableEq, Repr

/-- The foremost condition, in the priority order of R201. -/
inductive Condition
  | storeFault | lineBreak | deckFault | nodeLost | notVerified | clockUnset | ringBlocked | scanOverrun | none
deriving DecidableEq, Repr

/-- A WEIGHT frame (R205): the record with its WARMUP mark, and the foremost condition at its offer (R201). -/
structure WeightFrame where
  record : WeightRecord
  foremost : Condition
deriving DecidableEq, Repr

/-- A SAMPLE frame (R19). -/
structure SampleFrame where
  scan : BitVec 32
  line : LineState
  entries : List MirrorEntry
deriving DecidableEq, Repr

/-- The status byte of a reply, in the order of R204's status table (UNKNOWN_DIRECTIVE is 12h). -/
inductive Status
  | done | badValue | wrongState | busy | notFound | unstable | outOfZeroRange | noPassage | alreadyBound
  | tableFull | noCalibration | switchOpen | clockUnset | trailFull | storeFault | ringBlocked | listFull
  | queueFull | unknownDirective | malformed
deriving DecidableEq, Repr

/-- The first cross-field condition that a COMMIT_CAL breaks, in the order of R162. -/
inductive CommitFlaw
  | nodeInTwoDecks (node : Nat)
  | deckSize (deck : Nat)
  | capacityRatio
  | padEmpty
  | countSpent
  | sequenceSpent
deriving DecidableEq, Repr

/-- The three transaction counters (R133). -/
structure Counters where
  first : Nat
  second : Nat
  purge : Nat
deriving DecidableEq, Repr

/-- An input filter as READ_STATUS shows it (R59). -/
structure InputReport where
  accepted : Option Bool
  candidateOpen : Bool
  last : Option LevelMark
  chatter : Nat
deriving DecidableEq, Repr

/-- The store cases READ_STATUS shows (R152, R202). -/
inductive StoreCase
  | clear | writeFault | unusable
deriving DecidableEq, Repr

/-- The reply of READ_STATUS (R202). -/
structure StatusReport where
  rate1 : Bool
  rate0 : Bool
  badFrames : Nat
  overflow : Bool
  queued : Nat
  interval : Nat
  mirror : Bool
  foremost : Condition
  runState : RunState
  clockSet : Bool
  calibrationMode : Bool
  line : LineState
  scanOverrun : Bool
  inputs : List InputReport
  entryGreen : Bool
  exitGreen : Bool
  exitBarrier : Bool
  timebase : Stamp
  verified : Bool
  reasons : List TradeReason
  zeroLimitPending : Bool
  auditOpen : Bool
  auditPoints : Nat
  passage : Option Passage
  passageCounter : BitVec 16
  fill : Nat
  slotFree : Bool
  counters : Counters
  storeCase : StoreCase
deriving DecidableEq, Repr

/-- The result fields of a reply (R196), by the rule of its directive. -/
inductive Result
  | nothing
  | count (n : Nat)
  | siteOffset (offset : Nat)
  | site (settings : Site)
  | lineTest (mismatches : Nat)
  | node (record : NodeRecord)
  | correction (grams : Int)
  | corrections (decks : List (Nat × Int))
  | deck (deck : Nat)
  | weight (record : Option WeightRecord)
  | vehiclePut (replaced : Bool) (entries : Nat)
  | vehicle (entry : Option Vehicle) (tareFits : Option Bool) (index : BitVec 6) (bit : Bool) (entries : Nat)
  | classWas (filled : Bool)
  | classEntry (entry : Option ClassEntry)
  | bound (lookup : Lookup) (holds : List HoldReason) (passage : BitVec 16)
  | holds (holds : List HoldReason)
  | slot (index : Nat)
  | released (index posted : Nat)
  | transaction (entry : Option OpenEntry) (entries : Nat) (counters : Counters)
  | entered (calCount unaudited room : Nat)
  | paramSet (before after : Int) (changed : Nat)
  | paramRead (value : Int) (differs : Option Bool) (changed : Option Nat) (calCount : Nat)
  | commitFlaw (flaw : CommitFlaw)
  | trailFull (changed unaudited : Nat)
  | committed (calCount changed firstNew lastNew unaudited : Nat)
  | trail (entries : List TrailEntry) (oldest : Option Nat) (newest mark : Nat) (more : Bool)
  | auditOpened (opening : Option CalTime) (calCount : Nat) (reasons : List TradeReason) (unaudited : Nat)
  | point (p : Point)
  | certificate (number : BitVec 32) (slot : Nat) (summary : AuditSummary) (mark : Nat)
  | clockWas (time : Option CalTime)
  | status (report : StatusReport)
deriving DecidableEq, Repr

/-- A reply (R196). -/
structure Reply where
  ref : Byte
  code : Byte
  status : Status
  result : Result
deriving DecidableEq, Repr

/-- A frame of class A (10 "Reports"); a TICKET frame's marker is RESENT or NEW (R145). -/
inductive Frame
  | reply (r : Reply)
  | ticket (resent : Bool) (slot : Nat) (record : Ticket)
  | axle (passage : BitVec 16) (marker : AxleMarker) (record : AxleRecord)
  | passage (r : PassageReport)
  | event (stamp : Stamp) (e : Event)
  | weight (f : WeightFrame)
  | sample (f : SampleFrame)
deriving DecidableEq, Repr

/-! ## Terminal Link Interface -/

/-- The receive framer (R193): in a frame, the bytes received since SYNC. -/
inductive Framer
  | hunt
  | inFrame (bytes : List Byte)
deriving DecidableEq, Repr

/-- A directive in the directive queue with its reference byte (R195). -/
structure Queued where
  ref : Byte
  directive : Directive
deriving DecidableEq, Repr

/-- The Terminal Link Interface's state (10). `executing` says that the oldest directive of the queue has
begun work that holds the queue (R195); `sending` is the frame on the line. -/
structure Tli where
  rate1 : Bool
  rate0 : Bool
  framer : Framer
  badFrames : Nat
  directives : List Queued
  executing : Bool
  classA : List Frame
  weightSlot : Option WeightFrame
  sampleSlot : Option SampleFrame
  sending : Option Frame
  interval : Nat
  mirror : Bool
  overflow : Bool
  scanOverrun : Bool
deriving DecidableEq, Repr

/-! ## The whole part -/

/-- The state of the part: its power, its thirteen blocks (the Ticket Unit's view is the store), the counter
that free delivery orders are drawn with (log 8), and the queue of waiting commands. -/
structure State where
  powered : Bool
  clc : Clc
  wge : Wge
  ylu : Ylu
  axm : Axm
  vtb : Vtb
  psu : Psu
  clu : Clu
  vfu : Vfu
  tli : Tli
  rnc : Rnc
  cck : Cck
  stc : Stc
  freeCount : Nat
  pending : List Instr
deriving DecidableEq, Repr

/-- The part has no fault that stops it: every condition the manual calls a fault is a flag, an event or a
reply. No constructor, so no command can end in a fault. -/
inductive Fault
deriving DecidableEq, Repr

/-- Why a command has no meaning. -/
inductive Refusal
  /-- Raised by `exec` for a row of the table that has no meaning yet (none is left). Safe: the machine
  stops where the part goes on. -/
  | notModelled (mnemonic : String)
deriving DecidableEq, Repr

/-! ## Reset values -/

/-- The calendar fields at power-on (R211). -/
def CalTime.powerOn : CalTime := ⟨2000, 1, 1, 0, 0, 0⟩

/-- A cell's factory values (R155). -/
def CellCal.factory : CellCal := ⟨0, 65536, 32768, 0, 100⟩

/-- A deck's factory values (R155). -/
def DeckCal.factory : DeckCal := ⟨0, true, 0⟩

/-- The factory calibration set (R155, R212). -/
def CalSet.factory : CalSet where
  maxLoad := 60000
  division := 20
  filterLength := 4
  stabilityWindow := 8
  motionBand := 2
  zeroTrackWindow := 50
  warmupLength := 256
  padDeck := false
  decks := List.replicate 4 DeckCal.factory
  cells := List.replicate 16 CellCal.factory

/-- The factory store (R212). -/
def Store.factory : Store where
  calibration := { set := CalSet.factory, count := 0, trail := [], newest := 0, mark := 0 }
  reasons := [.neverVerified]
  ticket := { next := 1, ring := List.replicate 32 none, fill := 0 }
  transaction := { table := [], firstCount := 0, secondCount := 0, purgeCount := 0 }

/-- The default site settings (11 "Site settings"). -/
def Site.default : Site where
  scanPeriod := 20
  replyWindow := 1000
  lostLimit := 8
  holdLimit := 4
  loopFilter := 100
  stripFilter := 10
  stripSpacing := 600
  pairingWindow := 2000
  speedLimit := 2000
  padOn := 200
  padOff := 100
  trim := 2
  minDwell := 8
  groupGap := 2500
  captureTimeout := 60
  admitUnlisted := true
  overloadHold := false

/-- A node record after power-on or RESTART (R21); `assigned` says that the committed deck map names it. -/
def NodeRecord.fresh (assigned : Bool) : NodeRecord where
  state := if assigned then .searching else .unassigned
  missed := 0
  lastError := none
  errorCount := 0
  lastSequence := none
  mode := .normal
  delivered := true

/-- The Cell Line Controller at power-on, no node assigned (R21). -/
def Clc.powerOn : Clc where
  nodes := List.replicate 16 (NodeRecord.fresh false)
  line := .normal
  scanNumber := 0
  scanTimer := none
  scan := none
  scanPending := false
  attempt := none
  haltTodo := []
  lineTest := false

/-- A deck that becomes configured (R22), or a configured deck after power-on or RESTART (R50). -/
def Deck.fresh (zeroCal : Int) : Deck where
  zero := zeroCal
  initialZero := none
  filter := []
  stability := []
  value := none
  hold := 0
  faulted := false
  state := .noZero
  stable := false
  overFlag := false
  trackRun := 0
  zeroLimit := false

/-- The Weighing Engine at power-on, no deck configured (R50). -/
def Wge.powerOn : Wge := { decks := List.replicate 4 none, latest := none, streamCount := 0 }

/-- A filter that begins to settle (R55, R64). -/
def InputFilter.settle (level : Bool) (now : Stamp) : InputFilter where
  raw := level
  accepted := none
  settling := some ⟨level, now⟩
  candidate := none
  last := none
  chatter := 0

/-- The conditions of the lights from NPOR release until the owners have told theirs: all failing. R64 gives the outputs
released and leaves the conditions open (DESIGN CHOICE, log 52). -/
def LightConditions.powerOn : LightConditions :=
  ⟨false, false, false, false, false, false, false, false, false⟩

/-- The Yard Line Unit at NPOR release (R51, R55, R64). -/
def Ylu.powerOn (levels : RawLevels) : Ylu where
  timebase := 0
  entryLoop := .settle levels.entryLoop 0
  exitLoop := .settle levels.exitLoop 0
  stripA := .settle levels.stripA 0
  stripB := .settle levels.stripB 0
  calSwitch := .settle levels.calSwitch 0
  conditions := .powerOn
  entryGreen := false
  exitGreen := false
  exitBarrier := false

/-- The Axle Monitor after either reset and whenever the passage becomes IDLE (R88). -/
def Axm.cleared : Axm where
  checking := false
  pairing := none
  queue := []
  pad := .unknown
  dwell := none
  padIgnore := false
  afterReverse := false
  list := []
  overflow := false
  final := false
  result := none

/-- The Vehicle Table Block at power-on (R102). -/
def Vtb.powerOn : Vtb := { vehicles := [], classes := List.replicate 16 none, mask := 0, salt := 0 }

/-- The Passage Unit after either reset (R128). -/
def Psu.cleared : Psu := { passage := none, counter := 0, captureTimer := none }

/-- The Terminal Link Interface at power-on (R203). -/
def Tli.powerOn (rate1 rate0 : Bool) : Tli where
  rate1 := rate1
  rate0 := rate0
  framer := .hunt
  badFrames := 0
  directives := []
  executing := false
  classA := []
  weightSlot := none
  sampleSlot := none
  sending := none
  interval := 5
  mirror := false
  overflow := false
  scanOverrun := false

/-- Run Control at power-on (R207, R210). -/
def Rnc.powerOn : Rnc := { runState := .halted, warmupCount := 0, warmupLength := 0, site := .default }

/-- The part right after reset (log 5): NPOR released with the rate pins low and the yard contacts released,
and the store check ended on the clean factory store. The trade status is NOT_VERIFIED (NEVER_VERIFIED)
and the clock is not set, so ENTRY_GREEN is released (R60, R64). -/
def State.reset : State where
  powered := true
  clc := .powerOn
  wge := .powerOn
  ylu := { Ylu.powerOn ⟨false, false, false, false, false⟩ with
    conditions := ⟨false, false, false, true, true, true, true, true, false⟩ }
  axm := .cleared
  vtb := .powerOn
  psu := .cleared
  clu := { staged := none, openingRecorded := false }
  vfu := { session := none, zeroLimitPending := false }
  tli := .powerOn false false
  rnc := .powerOn
  cck := { time := .powerOn, isSet := false }
  stc := { store := .factory, queue := [], fault := false, damaged := ⟨false, false, false, false⟩, checking := false }
  freeCount := 0
  pending := []

end Sys2Proof.Machine
end

