-- ==== Sys2Proof/Machine/Arith.lean ====
section
/-! DEFINITION. The arithmetic of the manual: rounding, saturating counts, the calendar, bit fields and the
24-bit count. -/

namespace Sys2Proof.Machine

/-- n / m rounded to the nearest integer, halves away from zero (00 "Rounding"). -/
def roundDiv (n : Int) (m : Nat) : Int :=
  if n < 0 then -((2 * n.natAbs + m) / (2 * m) : Nat) else ((2 * n.natAbs + m) / (2 * m) : Nat)

/-- F in grams as an indication in kg, a multiple of the division d (R41, R42, R75). -/
def indicate (division : Nat) (grams : Int) (count : Nat) : Int :=
  division * roundDiv grams (count * 1000 * division)

/-- One more, saturating at a limit (R9, R31, R53, R74, R193). -/
def saturatingSucc (limit n : Nat) : Nat := if n < limit then n + 1 else n

/-- The sum of a list of integers. -/
def sumInt (l : List Int) : Int := l.foldl (· + ·) 0

/-- The largest value less the smallest; 0 for an empty list (R28). -/
def spread : List Int → Int
  | [] => 0
  | x :: xs => xs.foldl max x - xs.foldl min x

/-- Appends to a history that holds at most `limit` values: the oldest leaves first (R27, R28). -/
def pushHistory (limit : Nat) (history : List Int) (value : Int) : List Int :=
  (history ++ [value]).drop (history.length + 1 - limit)

/-- The value a signed 32-bit field carries (R204). -/
def signed32 (w : BitVec 32) : Int := w.toInt

/-- A leap year of 2000 to 2099 (R211). -/
def leapYear (year : Nat) : Bool := year % 4 == 0

/-- The days of a month (R211). -/
def daysIn (year month : Nat) : Nat :=
  if month == 2 then (if leapYear year then 29 else 28)
  else if month == 4 || month == 6 || month == 9 || month == 11 then 30
  else 31

/-- The time one second later with full carry, or none where it would carry past 2099-12-31 23:59:59
(R211). -/
def CalTime.tick (t : CalTime) : Option CalTime :=
  if t.second + 1 < 60 then some { t with second := t.second + 1 }
  else if t.minute + 1 < 60 then some { t with second := 0, minute := t.minute + 1 }
  else if t.hour + 1 < 24 then some { t with second := 0, minute := 0, hour := t.hour + 1 }
  else if t.day + 1 ≤ daysIn t.year t.month then
    some { t with second := 0, minute := 0, hour := 0, day := t.day + 1 }
  else if t.month + 1 ≤ 12 then
    some { t with second := 0, minute := 0, hour := 0, day := 1, month := t.month + 1 }
  else if t.year + 1 ≤ 2099 then
    some { t with second := 0, minute := 0, hour := 0, day := 1, month := 1, year := t.year + 1 }
  else none

/-- A SET_CLOCK's fields are a calendar time (R211). -/
def ClockFields.valid (c : ClockFields) : Bool :=
  c.year.toNat ≤ 99 && 1 ≤ c.month.toNat && c.month.toNat ≤ 12 &&
  1 ≤ c.day.toNat && c.day.toNat ≤ daysIn (2000 + c.year.toNat) c.month.toNat &&
  c.hour.toNat ≤ 23 && c.minute.toNat ≤ 59 && c.second.toNat ≤ 59

/-- The time a SET_CLOCK's fields give (R204, R211). -/
def ClockFields.time (c : ClockFields) : CalTime :=
  ⟨2000 + c.year.toNat, c.month.toNat, c.day.toNat, c.hour.toNat, c.minute.toNat, c.second.toNat⟩

/-- The hold-mask index of a tag: its six groups of bits and the salt, combined by exclusive-or (R99). -/
def holdIndex (tag : Tag) (salt : BitVec 6) : BitVec 6 :=
  tag.extractLsb' 0 6 ^^^ tag.extractLsb' 6 6 ^^^ tag.extractLsb' 12 6 ^^^ tag.extractLsb' 18 6 ^^^
  tag.extractLsb' 24 6 ^^^ (tag.extractLsb' 30 2).setWidth 6 ^^^ salt

/-- The number of bits set among the lowest n bits of a mask. -/
def countBits {w : Nat} (mask : BitVec w) : Nat → Nat
  | 0 => 0
  | n + 1 => countBits mask n + (if mask.getLsbD n then 1 else 0)

/-- The nodes a cell mask names, ascending: node n is bit n − 1 (R155). -/
def maskNodes (mask : BitVec 16) : List Nat :=
  (List.range 16).filterMap fun i => if mask.getLsbD i then some (i + 1) else none

end Sys2Proof.Machine
end

