-- ==== Sys2Proof/Machine/Params.lean ====
section
/-! DEFINITION. The calibration set as parameters: reading, writing and ranging each of the 100 parameters
(R155), the changed parameters in their order (R161), and the cross-field conditions of a commit (R162). -/

namespace Sys2Proof.Machine

/-- Cell c of a set, 1 to 16. -/
def CalSet.cell (c : CalSet) (n : Nat) : CellCal := c.cells.getD (n - 1) CellCal.factory

/-- Deck i of a set, 0 to 3. -/
def CalSet.deck (c : CalSet) (i : Nat) : DeckCal := c.decks.getD i DeckCal.factory

/-- A global parameter as a number: PAD_DECK is 1 for deck 0 designated and 0 for none (R155). -/
def CalSet.getGlobal (c : CalSet) : GlobalParam → Int
  | .maxLoad => c.maxLoad
  | .division => c.division
  | .filterLength => c.filterLength
  | .stabilityWindow => c.stabilityWindow
  | .motionBand => c.motionBand
  | .zeroTrackWindow => c.zeroTrackWindow
  | .warmupLength => c.warmupLength
  | .padDeck => if c.padDeck then 1 else 0

/-- A deck parameter as a number: IN_BRIDGE is 1 for yes and 0 for no (R155). -/
def DeckCal.get (d : DeckCal) : DeckParam → Int
  | .cellMask => d.mask.toNat
  | .inBridge => if d.inBridge then 1 else 0
  | .zeroCal => d.zeroCal

/-- A cell parameter as a number (R155). -/
def CellCal.get (c : CellCal) : CellParam → Int
  | .offset => c.offset
  | .gain => c.gain
  | .corner => c.corner
  | .refCount => c.refCount
  | .refTolerance => c.refTolerance

/-- A parameter of a set as a number (R155). -/
def CalSet.get (c : CalSet) : ParamId → Int
  | .global p => c.getGlobal p
  | .deck p i => (c.deck i).get p
  | .cell p n => (c.cell n).get p

/-- Writes a global parameter. -/
def CalSet.setGlobal (c : CalSet) (v : Int) : GlobalParam → CalSet
  | .maxLoad => { c with maxLoad := v.toNat }
  | .division => { c with division := v.toNat }
  | .filterLength => { c with filterLength := v.toNat }
  | .stabilityWindow => { c with stabilityWindow := v.toNat }
  | .motionBand => { c with motionBand := v.toNat }
  | .zeroTrackWindow => { c with zeroTrackWindow := v.toNat }
  | .warmupLength => { c with warmupLength := v.toNat }
  | .padDeck => { c with padDeck := v == 1 }

/-- Writes a deck parameter. -/
def DeckCal.set (d : DeckCal) (v : Int) : DeckParam → DeckCal
  | .cellMask => { d with mask := BitVec.ofNat 16 v.toNat }
  | .inBridge => { d with inBridge := v == 1 }
  | .zeroCal => { d with zeroCal := v }

/-- Writes a cell parameter. -/
def CellCal.set (c : CellCal) (v : Int) : CellParam → CellCal
  | .offset => { c with offset := v }
  | .gain => { c with gain := v.toNat }
  | .corner => { c with corner := v.toNat }
  | .refCount => { c with refCount := v }
  | .refTolerance => { c with refTolerance := v.toNat }

/-- Writes one parameter of a set (R159). -/
def CalSet.set (c : CalSet) (v : Int) : ParamId → CalSet
  | .global p => c.setGlobal v p
  | .deck p i => { c with decks := c.decks.set i ((c.deck i).set v p) }
  | .cell p n => { c with cells := c.cells.set (n - 1) ((c.cell n).set v p) }

/-- A number lies in a closed range. -/
def within (lo hi v : Int) : Bool := lo ≤ v && v ≤ hi

/-- A value lies in its parameter's range (R155). PAD_DECK and IN_BRIDGE are numbered 1 and 0 in SET_PARAM too, as in the
trail and READ_PARAM (DESIGN CHOICE, log 48). -/
def ParamId.inRange : ParamId → Int → Bool
  | .global .maxLoad, v => within 1000 200000 v
  | .global .division, v => v ∈ [1, 2, 5, 10, 20, 50, 100]
  | .global .filterLength, v => v ∈ [1, 2, 4, 8, 16]
  | .global .stabilityWindow, v => within 2 32 v
  | .global .motionBand, v => within 1 10 v
  | .global .zeroTrackWindow, v => within 8 255 v
  | .global .warmupLength, v => v ∈ [64, 128, 256, 512, 1024, 2048, 4096]
  | .global .padDeck, v => within 0 1 v
  | .deck .cellMask _, v => within 0 65535 v
  | .deck .inBridge _, v => within 0 1 v
  | .deck .zeroCal _, v => within (-2000000000) 2000000000 v
  | .cell .offset _, v => within (-8388608) 8388607 v
  | .cell .gain _, v => within 0 16777215 v
  | .cell .corner _, v => within 16384 49152 v
  | .cell .refCount _, v => within (-8388608) 8388607 v
  | .cell .refTolerance _, v => within 1 10000 v

/-- The global parameters in order (R155). -/
def globalParams : List GlobalParam :=
  [.maxLoad, .division, .filterLength, .stabilityWindow, .motionBand, .zeroTrackWindow, .warmupLength, .padDeck]

/-- The deck parameters in order (R161). -/
def deckParams : List DeckParam := [.cellMask, .inBridge, .zeroCal]

/-- The cell parameters in order (R161). -/
def cellParams : List CellParam := [.offset, .gain, .corner, .refCount, .refTolerance]

/-- The 100 parameters in the order of R161. -/
def allParams : List ParamId :=
  globalParams.map .global ++
  (List.range 4).flatMap (fun i => deckParams.map (.deck · i)) ++
  (List.range 16).flatMap (fun n => cellParams.map (.cell · (n + 1)))

/-- The changed parameters in order (R161): those whose staged value differs from the committed one. -/
def changedParams (staged committed : CalSet) : List ParamId :=
  allParams.filter fun p => staged.get p != committed.get p

/-- The nodes named in the masks of decks 0 to 3, ascending (R3). -/
def CalSet.pollList (c : CalSet) : List Nat :=
  ((List.range 16).map (· + 1)).filter fun n => (List.range 4).any fun i => (c.deck i).mask.getLsbD (n - 1)

/-- The number of decks whose mask names a node. -/
def CalSet.decksNaming (c : CalSet) (n : Nat) : Nat :=
  ((List.range 4).filter fun i => (c.deck i).mask.getLsbD (n - 1)).length

/-- The first condition of R162 row 5 that fails, in the order of the rule's list; the lowest-numbered node
or deck where several fail the same one. `count` and `newest` are the calibration count and the newest
trail sequence, k the number of changed parameters. -/
def commitFlaw (c : CalSet) (count newest k : Nat) : Option CommitFlaw :=
  match ((List.range 16).map (· + 1)).find? (fun n => c.decksNaming n > 1) with
  | some n => some (.nodeInTwoDecks n)
  | none =>
    match (List.range 4).find? (fun i => (c.deck i).mask != 0 && (maskNodes (c.deck i).mask).length > 8) with
    | some i => some (.deckSize i)
    | none =>
      if !(500 * c.division ≤ c.maxLoad && c.maxLoad ≤ 10000 * c.division) then some .capacityRatio
      else if c.padDeck && (c.deck 0).mask == 0 then some .padEmpty
      else if count == Config.max32 then some .countSpent
      else if newest + k > Config.max32 then some .sequenceSpent
      else none

/-- The trail entries a commit writes (R163): in the order of R161, with consecutive sequence numbers. -/
def trailEntries (staged committed : CalSet) (newest count : Nat) (time : CalTime) : List TrailEntry :=
  (changedParams staged committed).mapIdx fun i p =>
    { sequence := newest + i + 1, calCount := count, param := p,
      oldValue := committed.get p, newValue := staged.get p, time := time }

end Sys2Proof.Machine
end

