-- ==== Sys2Proof/Machine/Flags.lean ====
section
/-! DEFINITION. The facts the blocks derive from State: the set in use, the trade status, the usability of
the store's areas, the foremost condition, the conditions of the lights, and sets of named values kept in
one canonical order. -/

namespace Sys2Proof.Machine

/-! ## Sets of named values (log 21) -/

/-- The hold reasons in the order of R120. -/
def allHolds : List HoldReason :=
  [.unlisted, .blocked, .probe, .overload, .unstable, .tableFull, .ringBlocked, .notVerified, .storeFault]

/-- Adds a reason to a hold set; a reason already present leaves it as it was (R120). -/
def addHold (r : HoldReason) (holds : List HoldReason) : List HoldReason :=
  allHolds.filter fun x => x == r || holds.contains x

/-- Removes a reason from a hold set. -/
def dropHold (r : HoldReason) (holds : List HoldReason) : List HoldReason :=
  allHolds.filter fun x => x != r && holds.contains x

/-- The waits: the reasons the part itself sets and clears (R120). -/
def HoldReason.isWait : HoldReason → Bool
  | .unstable | .tableFull | .ringBlocked | .notVerified | .storeFault => true
  | .unlisted | .blocked | .probe | .overload => false

/-- The waits a refused ticket request adds (R120, R122). -/
def HoldReason.isRequestWait : HoldReason → Bool
  | .tableFull | .ringBlocked | .notVerified | .storeFault => true
  | _ => false

/-- The pre-ticket holds (R120). -/
def HoldReason.isPreTicket : HoldReason → Bool
  | .unlisted | .blocked => true
  | _ => false

/-- Removes every wait from a hold set (R108, R110, R125). -/
def dropWaits (holds : List HoldReason) : List HoldReason := holds.filter fun r => !r.isWait

/-- The stored reasons in the order of R173. -/
def allReasons : List TradeReason :=
  [.neverVerified, .calibrationChanged, .auditFailed, .zeroLimit, .storeFault]

/-- Adds a reason to the stored reasons. -/
def addReason (r : TradeReason) (reasons : List TradeReason) : List TradeReason :=
  allReasons.filter fun x => x == r || reasons.contains x

/-! ## Calibration -/

/-- Calibration mode (R158): on while a staged set exists. -/
def State.calibrating (s : State) : Bool := s.clu.staged.isSome

/-- The committed calibration set: what the store holds after the last completed update (R155). -/
def State.committed (s : State) : CalSet := s.stc.store.calibration.set

/-- The set in use (R156). -/
def State.setInUse (s : State) : CalSet := s.clu.staged.getD s.committed

/-- The number of unaudited trail entries (R168). -/
def State.unaudited (s : State) : Nat := s.stc.store.calibration.newest - s.stc.store.calibration.mark

/-! ## Run state -/

/-- Scans are polled and handoffs worked (R20, R49): WARMUP and RUN. -/
def State.scanning (s : State) : Bool := s.rnc.runState == .warmup || s.rnc.runState == .run

/-- No passage exists (R103). -/
def State.idle (s : State) : Bool := s.psu.passage.isNone

/-! ## Trade status -/

/-- The stored reasons as the VFU reads them: NEVER_VERIFIED in the place of a damaged status area
(R191). -/
def State.storedReasons (s : State) : List TradeReason :=
  if s.stc.damaged.status then [.neverVerified] else s.stc.store.reasons

/-- The reason set (R173): the stored reasons, a pending ZERO_LIMIT, and STORE_FAULT while the flag is
set. -/
def State.reasonSet (s : State) : List TradeReason :=
  allReasons.filter fun r =>
    match r with
    | .storeFault => s.stc.fault
    | .zeroLimit => s.vfu.zeroLimitPending || s.storedReasons.contains .zeroLimit
    | r => s.storedReasons.contains r

/-- The trade status is VERIFIED (R173). -/
def State.verified (s : State) : Bool := s.reasonSet.isEmpty

/-! ## Store -/

/-- The calibration area is damaged (R215). -/
def State.calibrationDamaged (s : State) : Bool := s.stc.damaged.calibration

/-- The TKU has a view of the ring, the table, the counters and the next number (R152). -/
def State.ticketsUsable (s : State) : Bool :=
  !s.stc.damaged.ticket && !s.stc.damaged.transaction && s.stc.store.ticket.next != 0

/-- The slot at the fill pointer is POSTED (R147). -/
def State.fillSlotPosted (s : State) : Bool :=
  (s.stc.store.ticket.ring.getD s.stc.store.ticket.fill none).isSome

/-- The three transaction counters (R133). -/
def State.counters (s : State) : Counters :=
  ⟨s.stc.store.transaction.firstCount, s.stc.store.transaction.secondCount, s.stc.store.transaction.purgeCount⟩

/-! ## Foremost condition -/

/-- Any configured deck is FAULT (R31). -/
def State.anyDeckFault (s : State) : Bool :=
  s.wge.decks.any fun d => match d with
    | some d => d.state == .fault
    | none => false

/-- Any node on the poll list is LOST (R11). -/
def State.anyNodeLost (s : State) : Bool := s.clc.nodes.any fun n => n.state == .lost

/-- The foremost condition (R201). While the ticket area is unusable RING_BLOCKED is not judged. -/
def State.foremost (s : State) : Condition :=
  if s.stc.fault then .storeFault
  else if s.clc.line == .broken then .lineBreak
  else if s.anyDeckFault then .deckFault
  else if s.anyNodeLost then .nodeLost
  else if !s.verified then .notVerified
  else if !s.cck.isSet then .clockUnset
  else if s.ticketsUsable && s.fillSlotPosted then .ringBlocked
  else if s.tli.scanOverrun then .scanOverrun
  else .none

/-! ## Lights -/

/-- The passage is in DONE with an empty hold set, or in LEAVING (R62). -/
def State.exitOpen (s : State) : Bool :=
  match s.psu.passage with
  | some p => (p.state == .done && p.holds.isEmpty) || p.state == .leaving
  | none => false

/-- The conditions of the lights as their owners have them (R60, R62). An unusable ticket area gives no
FREE slot; the store fault flag is set throughout that case (R152). -/
def State.lightConditions (s : State) : LightConditions where
  running := s.rnc.runState == .run
  verified := s.verified
  clockSet := s.cck.isSet
  noAudit := s.vfu.session.isNone
  calibrationOff := !s.calibrating
  passageIdle := s.idle
  slotFree := s.ticketsUsable && !s.fillSlotPosted
  storeClear := !s.stc.fault
  exitOpen := s.exitOpen

/-- ENTRY_GREEN's level from the conditions the YLU holds (R60). -/
def LightConditions.entryGreen (c : LightConditions) : Bool :=
  c.running && c.verified && c.clockSet && c.noAudit && c.calibrationOff && c.passageIdle && c.slotFree && c.storeClear

/-- The YLU takes the owners' notices and drives the three outputs (R61, R62). -/
def refreshLights (s : State) : State :=
  let c := s.lightConditions
  { s with ylu := { s.ylu with
      conditions := c, entryGreen := c.entryGreen, exitGreen := c.exitOpen, exitBarrier := c.exitOpen } }

/-! ## Yard inputs and nodes -/

/-- The filter of an input. -/
def Ylu.filter (y : Ylu) : YardInput → InputFilter
  | .entryLoop => y.entryLoop
  | .exitLoop => y.exitLoop
  | .stripA => y.stripA
  | .stripB => y.stripB
  | .calSwitch => y.calSwitch

/-- Replaces the filter of an input. -/
def Ylu.setFilter (y : Ylu) (f : InputFilter) : YardInput → Ylu
  | .entryLoop => { y with entryLoop := f }
  | .exitLoop => { y with exitLoop := f }
  | .stripA => { y with stripA := f }
  | .stripB => { y with stripB := f }
  | .calSwitch => { y with calSwitch := f }

/-- The accepted level of ENTRY_LOOP is clear; UNSETTLED counts as not clear (R107). -/
def State.entryClear (s : State) : Bool := s.ylu.entryLoop.accepted == some false

/-- The accepted level of EXIT_LOOP is clear; UNSETTLED counts as not clear (R107). -/
def State.exitClear (s : State) : Bool := s.ylu.exitLoop.accepted == some false

/-- CAL_SWITCH is accepted closed (R157). -/
def State.switchClosed (s : State) : Bool := s.ylu.calSwitch.accepted == some true

/-- The record of node n, 1 to 16. -/
def Clc.node (c : Clc) (n : Nat) : NodeRecord := c.nodes.getD (n - 1) default

/-- Replaces the record of node n. -/
def Clc.setNode (c : Clc) (n : Nat) (r : NodeRecord) : Clc := { c with nodes := c.nodes.set (n - 1) r }

/-- A cell is in reference (R45): commanded REFERENCE, or NORMAL not yet delivered. -/
def NodeRecord.inReference (r : NodeRecord) : Bool := r.mode == .reference || !r.delivered

/-- The latest record's W, taken as 0 when none has been published (R107). -/
def State.latestWeight (s : State) : Int :=
  match s.wge.latest with
  | some r => r.weight
  | none => 0

/-- A weight of at least 20d (R107, R110, R114, R115), d of the set in use (log 27). -/
def State.heavy (s : State) (w : Int) : Bool := decide (20 * (s.setInUse.division : Int) ≤ w)

end Sys2Proof.Machine
end

