-- ==== Sys2Proof/Machine/Operands.lean ====
section
/-! DEFINITION. The directives' parameter fields as the values they stand for (R204): enumerated bytes,
presence bytes, parameter identifiers, the site-settings block. None is a value outside its range. -/

namespace Sys2Proof.Machine

/-- A field numbered from 1 in the order "set or clear", "yes or no" (R204, log 15): 1 for the first. -/
def firstOrSecond (b : Byte) : Option Bool :=
  if b == 1 then some true else if b == 2 then some false else none

/-- The mirror switch "off or on" (R47, R204): 1 off, 2 on. -/
def offOrOn (b : Byte) : Option Bool :=
  if b == 1 then some false else if b == 2 then some true else none

/-- A presence byte: 00h absent, 01h present (R204). Any other value is outside the field's range (DESIGN CHOICE, log 46). -/
def presence (b : Byte) : Option Bool :=
  if b == 0 then some false else if b == 1 then some true else none

/-- The transaction kind "RECEIVAL or DISPATCH" (R117, R204). -/
def kindOf (b : Byte) : Option TransactionKind :=
  if b == 1 then some .receival else if b == 2 then some .dispatch else none

/-- The hold reason numbered in the order of R120 (R204). -/
def reasonOf (b : Byte) : Option HoldReason := if b == 0 then none else allHolds[b.toNat - 1]?

/-- The selection "STAGED or COMMITTED" (R160, R204): true for STAGED. -/
def selectionOf (b : Byte) : Option Bool := firstOrSecond b

/-- A parameter identifier: the identifier numbered from 1 in the order of R155's table, then the deck or
cell number, 00h for a global parameter (R204, log 16). -/
def paramOf (identifier place : Byte) : Option ParamId :=
  let i := identifier.toNat
  let n := place.toNat
  if i == 0 then none
  else if i ≤ 8 then (if n == 0 then (globalParams[i - 1]?).map .global else none)
  else if i ≤ 11 then (if n < 4 then (deckParams[i - 9]?).map (.deck · n) else none)
  else if i ≤ 16 then (if 1 ≤ n && n ≤ 16 then (cellParams[i - 12]?).map (.cell · n) else none)
  else none

/-- A load point's target: 00h to 03h a deck, FFh BRIDGE (R204). -/
def targetOf (b : Byte) : Option PointTarget :=
  if b == 0xFF then some .bridge else if b.toNat < 4 then some (.deck b.toNat) else none

/-- A node or cell number 1 to 16. -/
def nodeOf (b : Byte) : Option Nat := if 1 ≤ b.toNat && b.toNat ≤ 16 then some b.toNat else none

/-- The seven fields of a filled class entry, in range and with the minimum axle count not above the maximum
(R97, R98). -/
def ClassFields.entry (f : ClassFields) : Option ClassEntry :=
  let limitOk (w : BitVec 32) : Bool := 1 ≤ w.toNat && w.toNat ≤ 200000
  let axlesOk (b : Byte) : Bool := 1 ≤ b.toNat && b.toNat ≤ 12
  if axlesOk f.minAxles && axlesOk f.maxAxles && limitOk f.single && limitOk f.tandem && limitOk f.triple &&
      limitOk f.quad && limitOk f.gross && f.minAxles.toNat ≤ f.maxAxles.toNat then
    some ⟨f.minAxles.toNat, f.maxAxles.toNat, f.single.toNat, f.tandem.toNat, f.triple.toNat, f.quad.toNat, f.gross.toNat⟩
  else none

/-! ## The site-settings block (11 "Site settings") -/

/-- The fields of the block: byte offset, number of bytes, lowest and highest value. -/
def siteFields : List (Nat × Nat × Nat × Nat) :=
  [(0, 1, 5, 200), (1, 2, 200, 5000), (3, 1, 2, 32), (4, 1, 0, 15), (5, 2, 20, 500), (7, 1, 2, 50),
   (8, 2, 200, 2000), (10, 2, 200, 5000), (12, 2, 500, 4000), (14, 2, 50, 2000), (16, 2, 20, 1990),
   (18, 1, 0, 8), (19, 1, 3, 64), (20, 2, 1000, 4000), (22, 1, 10, 250), (23, 1, 1, 2), (24, 1, 1, 2)]

/-- A field of the block, one byte or two with the high byte first (R204). -/
def siteField (block : List Byte) (offset size : Nat) : Nat :=
  if size == 1 then (block.getD offset 0).toNat
  else 256 * (block.getD offset 0).toNat + (block.getD (offset + 1) 0).toNat

/-- The byte offset of the first field outside its range; the off-threshold's range ends below the
on-threshold (R210). -/
def siteFlaw (block : List Byte) : Option Nat :=
  (siteFields.find? fun (offset, size, lo, hi) =>
    let v := siteField block offset size
    v < lo || hi < v || (offset == 16 && siteField block 14 2 ≤ v)).map (·.1)

/-- The settings a block gives (11 "Site settings"). -/
def siteOf (block : List Byte) : Site where
  scanPeriod := siteField block 0 1
  replyWindow := siteField block 1 2
  lostLimit := siteField block 3 1
  holdLimit := siteField block 4 1
  loopFilter := siteField block 5 2
  stripFilter := siteField block 7 1
  stripSpacing := siteField block 8 2
  pairingWindow := siteField block 10 2
  speedLimit := siteField block 12 2
  padOn := siteField block 14 2
  padOff := siteField block 16 2
  trim := siteField block 18 1
  minDwell := siteField block 19 1
  groupGap := siteField block 20 2
  captureTimeout := siteField block 22 1
  admitUnlisted := siteField block 23 1 == 1
  overloadHold := siteField block 24 1 == 2

end Sys2Proof.Machine
end

