-- ==== Sys2Proof/Machine/Ops.lean ====
section
/-! DEFINITION. The shared operations: offering frames and the transmit arbiter (R198 to R200), raising
events (R197), answering the directive in execution (R195, R196), handing updates to the Store Controller
(R213), and taking deliveries whose order is not specified (log 8). -/

namespace Sys2Proof.Machine

/-! ## The transmit arbiter -/

/-- The arbiter's choice when the transmitter is idle (R200): the oldest class A frame, then the WEIGHT
slot, then the SAMPLE slot. A chosen frame leaves its queue or slot (R198, R199). -/
def Tli.choose (t : Tli) : Tli :=
  match t.sending with
  | some _ => t
  | none =>
    match t.classA with
    | f :: rest => { t with classA := rest, sending := some f }
    | [] =>
      match t.weightSlot with
      | some w => { t with weightSlot := none, sending := some (.weight w) }
      | none =>
        match t.sampleSlot with
        | some m => { t with sampleSlot := none, sending := some (.sample m) }
        | none => t

/-- Offers a frame to the class A queue (R198): it joins at the newest end, or is dropped and sets the
report-overflow flag; an idle transmitter then chooses (R200). -/
def Tli.offer (f : Frame) (t : Tli) : Tli :=
  Tli.choose (if t.classA.length < Config.classACapacity then { t with classA := t.classA ++ [f] }
    else { t with overflow := true })

/-- Offers a WEIGHT frame to its slot, superseding an unsent one (R199). -/
def Tli.offerWeight (f : WeightFrame) (t : Tli) : Tli := Tli.choose { t with weightSlot := some f }

/-- Offers a SAMPLE frame to its slot, superseding an unsent one (R199). -/
def Tli.offerSample (f : SampleFrame) (t : Tli) : Tli := Tli.choose { t with sampleSlot := some f }

/-- Offers a class A frame. -/
def offer (f : Frame) (s : State) : State := { s with tli := s.tli.offer f }

/-- Raises an event: one EVENT frame with the timebase reading of the moment (R197). -/
def raise (e : Event) (s : State) : State := offer (.event s.ylu.timebase e) s

/-! ## Replies -/

/-- Offers a reply to a directive (R196). -/
def replyTo (ref code : Byte) (status : Status) (result : Result) (s : State) : State :=
  offer (.reply { ref := ref, code := code, status := status, result := result }) s

/-- Answers the directive in execution: its reply is offered and it leaves the directive queue (R195). -/
def answer (status : Status) (result : Result) (s : State) : State :=
  match s.tli.directives with
  | q :: rest =>
    replyTo q.ref q.directive.code status result { s with tli := { s.tli with directives := rest, executing := false } }
  | [] => s

/-- The directive in execution has begun work that holds the queue (R195). -/
def holdQueue (s : State) : State := { s with tli := { s.tli with executing := true } }

/-! ## Deliveries in any order -/

/-- Takes each of the deliveries once, in an order drawn from the free value (log 8); `n` bounds how many are
still to be taken. -/
def takeDeliveries : Nat → List (State → State) → State → State
  | 0, _, s => s
  | n + 1, acts, s =>
    let i := Config.nextDelivery s.freeCount % acts.length
    match acts[i]? with
    | some act => takeDeliveries n (acts.eraseIdx i) (act { s with freeCount := s.freeCount + 1 })
    | none => s

/-- Deliveries that reach different blocks with no order specified among them (R10, R46, R143). Where the
order can show, it is free (log 8); where it cannot, they are made in the order listed. -/
def inAnyOrder (shows : Bool) (acts : List (State → State)) (s : State) : State :=
  if shows then takeDeliveries acts.length acts s else acts.foldl (fun s act => act s) s

/-! ## Store updates -/

/-- Hands an update to the STC (R213): it joins the queue at the newest end. While the fault flag is set it
would end as failed at once (R214); no producer hands one then (log 19), so nothing is changed. -/
def handUpdate (u : Update) (s : State) : State :=
  if s.stc.fault then s else { s with stc := { s.stc with queue := s.stc.queue ++ [u] } }

/-- The producer of an update (R212). -/
def Update.producer : Update → Producer
  | .commit .. => .clu
  | .reason => .vfu
  | _ => .tku

/-! ## Passage record -/

/-- Replaces the passage record. -/
def setPassage (p : Passage) (s : State) : State := { s with psu := { s.psu with passage := some p } }

/-- Reports a passage upstream (R126); absent states are IDLE. -/
def report (before after : Option PassageState) (cause : PassageCause) (stamp : Option Stamp) (p : Passage) (s : State) : State :=
  offer (.passage { after := after, before := before, cause := cause, record := p, stamp := stamp }) s

/-- Stops the capture timer (R116). -/
def stopCaptureTimer (s : State) : State := { s with psu := { s.psu with captureTimer := none } }

/-! ## Time -/

/-- The command is taken at a reading of the capture timebase (log 1). -/
def atTime (now : Stamp) (s : State) : State := { s with ylu := { s.ylu with timebase := now } }

end Sys2Proof.Machine
end

