-- ==== Sys2Proof/Machine/Axles.lean ====
section
/-! DEFINITION. The Axle Monitor (04): strip pairing, the pending-axle queue, the pad dwell, the axle list,
reversals, the end of checking, grouping and the verdict. -/

namespace Sys2Proof.Machine

/-- The number of the passage that exists, for AXLE frames and STRIP_FAULT (R69, R78). -/
def State.passageNumber (s : State) : BitVec 16 :=
  match s.psu.passage with
  | some p => p.number
  | none => s.psu.counter

/-- The pad is designated in the set in use (R65). -/
def State.padDesignated (s : State) : Bool := s.setInUse.padDeck

/-- Checking begins (R65): everything empty, the pad UNKNOWN. -/
def startChecking (s : State) : State := { s with axm := { Axm.cleared with checking := true } }

/-- Checking ends other than by capture (R81): pairing, queue and dwell are discarded, the pad is UNKNOWN, the
list stays as it stands. -/
def endChecking (s : State) : State :=
  { s with axm := { s.axm with checking := false, pairing := none, queue := [], pad := .unknown, dwell := none } }

/-- The passage returns to IDLE (R81, R88). -/
def clearAxles (s : State) : State := { s with axm := Axm.cleared }

/-- STRIP_FAULT (R69). -/
def stripFault (cause : StripCause) (opened : Stamp) (s : State) : State :=
  raise (.stripFault s.passageNumber cause opened) s

/-! ## The axle list -/

/-- The spacing to the previous axle in mm, rounded down, with its four cases of absence (R77). -/
def axleSpacing (a : Axm) (e : PendingAxle) : Option Nat :=
  if a.afterReverse then none
  else
    match a.list.getLast?, e.crossing, e.speed with
    | some previous, some t, some v => previous.crossing.map fun t0 => v * elapsed t0 t / 1000000
    | _, _, _ => none

/-- The record of a closing axle, before its index is known (R77). -/
def axleRecord (a : Axm) (speedLimit : Nat) (e : PendingAxle) (load : Option Int) (dwellCount : Nat)
    (noPad shortDwell resting : Bool) : AxleRecord where
  index := none
  crossing := e.crossing
  speed := e.speed
  spacing := axleSpacing a e
  load := load
  dwellCount := dwellCount
  flags :=
    { fast := match e.speed with
        | some v => decide (speedLimit < v)
        | none => false
      noPad := noPad, shortDwell := shortDwell, padOnly := e.padOnly, resting := resting }
  group := none

/-- An axle closes into the list (R77, R78): appended with its index, or, into a full list, not recorded with
OVERFLOW set. The closure clears the after-reverse mark. -/
def closeAxle (e : PendingAxle) (load : Option Int) (dwellCount : Nat) (noPad shortDwell resting : Bool) (s : State) : State :=
  let r := axleRecord s.axm s.rnc.site.speedLimit e load dwellCount noPad shortDwell resting
  if s.axm.list.length < Config.axleCapacity then
    let r := { r with index := some (s.axm.list.length + 1) }
    offer (.axle s.passageNumber .closed r)
      { s with axm := { s.axm with list := s.axm.list ++ [r], afterReverse := false } }
  else
    offer (.axle s.passageNumber .unrecorded r)
      { s with axm := { s.axm with overflow := true, afterReverse := false } }

/-- A dwell in progress becomes detached (R71, R79). -/
def detachDwell (s : State) : State :=
  { s with axm := { s.axm with dwell := s.axm.dwell.map fun d => { d with detached := true } } }

/-- Replaces the pending-axle queue. -/
def setAxleQueue (q : List PendingAxle) (s : State) : State := { s with axm := { s.axm with queue := q } }

/-- A full pending-axle queue first closes its oldest entry with NO_PAD; its dwell goes on detached (R71). R71 names
NO_PAD alone; an entry made by the pad keeps its PAD_ONLY flag beside it (DESIGN CHOICE, log 33). -/
def makeAxleRoom (s : State) : State :=
  if s.axm.queue.length < Config.pendingAxleCapacity then s
  else
    match s.axm.queue with
    | oldest :: rest =>
      closeAxle oldest none 0 true false false
        (setAxleQueue rest (if oldest.onPad then detachDwell s else s))
    | [] => s

/-- A forward crossing joins the pending-axle queue and clears the pad-ignore mark (R71). -/
def joinForward (crossing : Stamp) (speed : Option Nat) (s : State) : State :=
  let s := makeAxleRoom s
  { s with axm := { s.axm with
      queue := s.axm.queue ++ [{ crossing := some crossing, speed := speed, onPad := false, padOnly := false }],
      padIgnore := false } }

/-- A reverse crossing (R79). -/
def reverseCrossing (s : State) : State :=
  let number := s.passageNumber
  let cleared := detachDwell { s with axm := { s.axm with
    list := s.axm.list.dropLast, queue := [], padIgnore := true, afterReverse := true } }
  match s.axm.list.getLast? with
  | some r => offer (.axle number .removed r) cleared
  | none => cleared

/-! ## Strip presses -/

/-- Sets the open pairing. -/
def setPairing (p : Option Pairing) (s : State) : State := { s with axm := { s.axm with pairing := p } }

/-- The pairing window in microseconds (R70). -/
def State.windowMicros (s : State) : Nat := s.rnc.site.pairingWindow * 1000

/-- An open pairing expires (R70). -/
def expirePairing (p : Pairing) (s : State) : State :=
  match p.direction with
  | .forward => stripFault .aExpired p.stamp (joinForward p.stamp none (setPairing none s))
  | .reverse => stripFault .bExpired p.stamp (setPairing none s)

/-- The speed of a crossing in mm/s, rounded down (R67). -/
def crossingSpeed (spacing interval : Nat) : Nat := spacing * 1000000 / interval

/-- A STRIP_A press (R66, R67, R68, R70). A crossing joins the queue before its STRIP_FAULT is raised, so the AXLE frame of an
entry that a full queue closes stands first (DESIGN CHOICE, log 43). -/
def stripAPress (t : Stamp) (s : State) : State :=
  match s.axm.pairing with
  | none => setPairing (some ⟨.forward, t⟩) s
  | some ⟨.forward, t0⟩ =>
    setPairing (some ⟨.forward, t⟩) (stripFault .repeatedA t0 (joinForward t0 none s))
  | some ⟨.reverse, t0⟩ =>
    if elapsed t0 t ≤ s.windowMicros then
      if t = t0 then stripFault .simultaneous t0 (joinForward t none (setPairing none s))
      else reverseCrossing (setPairing none s)
    else setPairing (some ⟨.forward, t⟩) (expirePairing ⟨.reverse, t0⟩ s)

/-- A STRIP_B press (R67, R68, R70). A crossing joins the queue before its STRIP_FAULT is raised, as at STRIP_A (DESIGN CHOICE,
log 43). -/
def stripBPress (t : Stamp) (s : State) : State :=
  match s.axm.pairing with
  | none => setPairing (some ⟨.reverse, t⟩) s
  | some ⟨.forward, t0⟩ =>
    if elapsed t0 t ≤ s.windowMicros then
      if t = t0 then stripFault .simultaneous t0 (joinForward t0 none (setPairing none s))
      else joinForward t0 (some (crossingSpeed s.rnc.site.stripSpacing (elapsed t0 t))) (setPairing none s)
    else setPairing (some ⟨.reverse, t⟩) (expirePairing ⟨.forward, t0⟩ s)
  | some ⟨.reverse, t0⟩ => setPairing (some ⟨.reverse, t⟩) (stripFault .repeatedB t0 s)

/-! ## Pad dwell -/

/-- The first sample of a dwell (R74). -/
def newDwell (trim : Nat) (g : Int) (detached : Bool) : Dwell where
  count := 1
  sum := g
  first := [g].take trim
  latest := [g].take trim
  detached := detached

/-- Adds a sample to a dwell, up to the count's 16 bits (R74). -/
def Dwell.add (trim : Nat) (g : Int) (d : Dwell) : Dwell :=
  if d.count < Config.max16 then
    { d with
      count := d.count + 1
      sum := d.sum + g
      first := if d.first.length < trim then d.first ++ [g] else d.first
      latest := pushHistory trim d.latest g }
  else d

/-- The remaining count after trimming (R75). -/
def Dwell.remaining (trim : Nat) (d : Dwell) : Nat := d.count - 2 * trim

/-- The load a dwell gives, absent when it is short (R75). -/
def Dwell.load (trim minDwell division : Nat) (d : Dwell) : Option Int :=
  let left := d.remaining trim
  if minDwell ≤ left then
    let sum := d.sum - sumInt (d.first.take trim) - sumInt (d.latest.drop (d.latest.length - trim))
    some (indicate division sum left)
  else none

/-- Sets the pad's state and dwell. -/
def setPad (pad : PadState) (dwell : Option Dwell) (s : State) : State :=
  { s with axm := { s.axm with pad := pad, dwell := dwell } }

/-- An activation (R73): a detached dwell while the pad-ignore mark is set; else the oldest entry's; else a
new PAD_ONLY entry's. -/
def activatePad (g : Int) (s : State) : State :=
  let trim := s.rnc.site.trim
  if s.axm.padIgnore then setPad .active (some (newDwell trim g true)) s
  else
    let queue := match s.axm.queue with
      | e :: rest => { e with onPad := true } :: rest
      | [] => [{ crossing := none, speed := none, onPad := true, padOnly := true }]
    setPad .active (some (newDwell trim g false)) (setAxleQueue queue s)

/-- A release (R75, R76). -/
def releasePad (s : State) : State :=
  let site := s.rnc.site
  match s.axm.dwell, s.axm.queue with
  | some d, e :: rest =>
    let freed := setPad .inactive none s
    if d.detached then freed
    else
      match d.load site.trim site.minDwell s.setInUse.division with
      | some load => closeAxle e (some load) (d.remaining site.trim) false false false (setAxleQueue rest freed)
      | none =>
        if e.padOnly then setAxleQueue rest freed
        else closeAxle e none (d.remaining site.trim) false true false (setAxleQueue rest freed)
  | _, _ => setPad .inactive none s

/-- A pad result (R72): none is the mark "incomplete". It is used while checking runs (R65). -/
def padResult (result : Option Int) (s : State) : State :=
  match result with
  | none => s
  | some g =>
    if !s.axm.checking then s
    else
      let site := s.rnc.site
      let on := decide ((site.padOn : Int) * 1000 < g)
      let off := decide (g < (site.padOff : Int) * 1000)
      match s.axm.pad with
      | .unknown => if on then setPad .active (some (newDwell site.trim g true)) s else setPad .inactive none s
      | .inactive => if on then activatePad g s else s
      | .active =>
        if off then releasePad s else setPad .active (s.axm.dwell.map (·.add site.trim g)) s

/-! ## Grouping and verdict -/

/-- Sets each record's group number, walking the list from a current group (R82). -/
def numberGroups (gap : Nat) : Nat → List AxleRecord → List AxleRecord
  | _, [] => []
  | current, r :: rest =>
    let joins := current != 0 && (match r.spacing with
      | some d => decide (d < gap)
      | none => false)
    let group := if joins then current else current + 1
    { r with group := some group } :: numberGroups gap group rest

/-- The number of groups of a numbered list. -/
def groupCount (list : List AxleRecord) : Nat :=
  match list.getLast? with
  | some r => r.group.getD 0
  | none => 0

/-- A group's kind (R82). -/
def groupKind (axles : Nat) : GroupKind :=
  if axles == 1 then .single else if axles == 2 then .tandem else if axles == 3 then .triple
  else if axles == 4 then .quad else .unrated

/-- The class limit for a kind (R83); an UNRATED group has none. -/
def ClassEntry.limit (c : ClassEntry) : GroupKind → Option Nat
  | .single => some c.single
  | .tandem => some c.tandem
  | .triple => some c.triple
  | .quad => some c.quad
  | .unrated => none

/-- An axle's valid load: present and not FAST (R83). -/
def AxleRecord.validLoad (r : AxleRecord) : Option Int := if r.flags.fast then none else r.load

/-- The sum of loads when every one is present. -/
def sumLoads : List (Option Int) → Option Int
  | [] => some 0
  | x :: rest =>
    match x, sumLoads rest with
    | some a, some b => some (a + b)
    | _, _ => none

/-- Judges a group (R83): OK or OVER only when every load is valid, the group has at most four axles and the
class is known. -/
def judgeGroup (entry : Option ClassEntry) (axles : List AxleRecord) : AxleGroup :=
  let kind := groupKind axles.length
  let indices := axles.filterMap (·.index)
  match entry.bind (·.limit kind), sumLoads (axles.map (·.validLoad)) with
  | some limit, some load =>
    { kind := kind, axles := indices, load := some load, excess := some (load - limit),
      verdict := if 0 < load - limit then .exceeded else .ok }
  | _, _ => { kind := kind, axles := indices, load := none, excess := none, verdict := .unrated }

/-- The greatest of the values present (R84). -/
def worstOf : List (Option Int) → Option Int
  | [] => none
  | x :: rest =>
    match x, worstOf rest with
    | some a, some b => some (max a b)
    | some a, none => some a
    | none, w => w

/-- The passage verdict (R84). -/
def passageVerdict (groups : List AxleGroup) (overflow noAxles : Bool) : Verdict :=
  if groups.any (·.verdict == .exceeded) then .exceeded
  else if groups.any (·.verdict == .unrated) || overflow || noAxles then .unrated
  else .ok

/-- The axle result of a final list (R83 to R86): with OVERFLOW the number of axles is taken as 13 (R85). -/
def axleResult (list : List AxleRecord) (overflow : Bool) (entry : Option ClassEntry) (weight : Int) : AxleResult :=
  let groups := (List.range (groupCount list)).map fun i => judgeGroup entry (list.filter (·.group == some (i + 1)))
  let number := if overflow then 13 else list.length
  { groups := groups
    summary :=
      { axleCount := list.length, groupCount := groups.length,
        verdict := passageVerdict groups overflow list.isEmpty, worstExcess := worstOf (groups.map (·.excess)) }
    axleCountFlag := match entry with
      | some c => number < c.minAxles || c.maxAxles < number
      | none => false
    grossOver := match entry with
      | some c => decide ((c.gross : Int) < weight)
      | none => false }

/-- The class entry of a bound class, known when it is filled (R83, R97). -/
def State.classEntry (s : State) (cls : Option Nat) : Option ClassEntry :=
  cls.bind fun n => s.vtb.classes.getD (n - 1) none

/-- The verdict is computed once the list is final and the identity bound (R86, R119): the AXM holds it and
hands it to the PSU. None where no list is final. -/
def verdictOf (s : State) (p : Passage) : Option AxleResult :=
  match p.identity, p.capture with
  | some i, some c => if s.axm.final then some (axleResult s.axm.list s.axm.overflow (s.classEntry i.cls) c.weight) else none
  | _, _ => none

/-! ## Capture -/

/-- The resting axle closes (R80 step 2). -/
def closeResting (s : State) : State :=
  match s.axm.queue with
  | e :: rest =>
    if e.onPad then
      let site := s.rnc.site
      let s' := setAxleQueue rest s
      match s.axm.dwell with
      | some d =>
        let load := d.load site.trim site.minDwell s.setInUse.division
        closeAxle e load (d.remaining site.trim) false load.isNone true s'
      | none => closeAxle e none 0 false true true s'
    else s
  | [] => s

/-- Every other queue entry closes, oldest first, with NO_PAD (R80 step 3). -/
def closeRest : List PendingAxle → State → State
  | [], s => s
  | e :: rest, s => closeRest rest (closeAxle e none 0 true false false (setAxleQueue rest s))

/-- The capture ends checking and makes the list final (R80); without a designated pad nothing is done. R80 gives no pad
state after the capture: it stays as it stood (DESIGN CHOICE, log 34). -/
def captureAxles (s : State) : State :=
  if s.axm.checking then
    let s := match s.axm.pairing with
      | some ⟨.forward, t⟩ => joinForward t none (setPairing none s)
      | _ => setPairing none s
    let s := closeResting s
    let s := closeRest s.axm.queue s
    { s with axm := { s.axm with
        checking := false, dwell := none, final := true,
        list := numberGroups s.rnc.site.groupGap 0 s.axm.list } }
  else s

end Sys2Proof.Machine
end

