-- ==== Sys2Proof/Machine/Tables.lean ====
section
/-! DEFINITION. The Vehicle Table Block (05): the vehicle table kept by rising tag, the class table, the tag
lookup; and the open transaction table as a collection (R129). -/

namespace Sys2Proof.Machine

/-- The entry for a tag, if any (R89). -/
def findVehicle (tag : Tag) (vs : List Vehicle) : Option Vehicle := vs.find? (·.tag == tag)

/-- Adds an entry for a new tag or replaces the entry of a tag already there (R90), keeping the tags
rising. -/
def insertVehicle (v : Vehicle) : List Vehicle → List Vehicle
  | [] => [v]
  | x :: rest =>
    if v.tag = x.tag then v :: rest
    else if v.tag < x.tag then v :: x :: rest
    else x :: insertVehicle v rest

/-- Removes the entry of a tag (R92). -/
def removeVehicle (tag : Tag) (vs : List Vehicle) : List Vehicle := vs.filter (·.tag != tag)

/-- A tare is a multiple of the committed division (R91, R95). -/
def State.tareFits (s : State) (tare : Nat) : Bool := tare % s.committed.division == 0

/-- The mask bit at a tag's hold-mask index (R94, R99). -/
def State.maskBit (s : State) (tag : Tag) : Bool := s.vtb.mask.getLsbD (holdIndex tag s.vtb.salt).toNat

/-- The lookup of a tag (R95). While the calibration area is damaged every tare is absent and the off-division
flag clear. -/
def lookupTag (s : State) (tag : Tag) : Lookup :=
  let index := holdIndex tag s.vtb.salt
  let probe := s.maskBit tag
  match findVehicle tag s.vtb.vehicles with
  | some v =>
    { listed := true
      cls := some v.cls
      tare := if s.calibrationDamaged then none else v.tare.filter s.tareFits
      tareOffDivision := !s.calibrationDamaged && (match v.tare with
        | some t => !s.tareFits t
        | none => false)
      presetAllowed := v.presetAllowed
      blocked := v.blocked
      index := index
      probe := probe }
  | none =>
    { listed := false, cls := none, tare := none, tareOffDivision := false, presetAllowed := false, blocked := false,
      index := index, probe := probe }

/-- The open entry for a tag, if any (R129). -/
def findOpen (tag : Tag) (table : List OpenEntry) : Option OpenEntry := table.find? (·.tag == tag)

/-- Adds an open entry, keeping the tags rising (R129). -/
def insertOpen (e : OpenEntry) : List OpenEntry → List OpenEntry
  | [] => [e]
  | x :: rest => if x.tag < e.tag then x :: insertOpen e rest else e :: x :: rest

/-- Removes the open entry of a tag (R129). -/
def removeOpen (tag : Tag) : List OpenEntry → List OpenEntry
  | [] => []
  | x :: rest => if x.tag = tag then rest else x :: removeOpen tag rest

end Sys2Proof.Machine
end

