-- ==== Sys2Proof/Machine/Tickets.lean ====
section
/-! DEFINITION. The Ticket Unit's decisions (07): the type of a ticket, its net and flags, the checks of a
request, the ticket record and its store update; and the change each store update makes (R141, R148, R131,
R151, R163, R175). -/

namespace Sys2Proof.Machine

/-- The answer to a judgement of the ticket request (R123): not made, refused with a wait, or accepted. -/
inductive RequestOutcome
  | notMade
  | refused (reason : HoldReason)
  | accepted
deriving DecidableEq, Repr

/-- The type of the ticket (R134): the first case that applies. -/
def ticketType (s : State) (i : Identity) : TicketType :=
  match findOpen i.tag s.stc.store.transaction.table with
  | some _ => .second
  | none => if i.onePass && i.presetAllowed && i.tare.isSome then .onePass else .first

/-- The checks of a ticket request (R135), in order; an unusable ticket area refuses with STORE_FAULT
(R152). -/
def requestRefusal (s : State) (type : TicketType) : Option HoldReason :=
  if s.stc.fault || !s.ticketsUsable then some .storeFault
  else if !s.verified then some .notVerified
  else if s.fillSlotPosted then some .ringBlocked
  else if type == .first && Config.transactionCapacity ≤ s.stc.store.transaction.table.length then some .tableFull
  else none

/-- The conditions under which the PSU asks for a ticket (R123). -/
def requestMade (s : State) (p : Passage) : Bool :=
  p.state == .captured && p.identity.isSome && !p.holds.any (·.isPreTicket) && !p.holds.any (·.isRequestWait) &&
  !p.intruder && s.rnc.runState == .run

/-- Judges the ticket request of a passage (R123, R135). -/
def requestOutcome (s : State) (p : Passage) : RequestOutcome :=
  match p.identity with
  | some i =>
    if requestMade s p then
      match requestRefusal s (ticketType s i) with
      | some r => .refused r
      | none => .accepted
    else .notMade
  | none => .notMade

/-- The net of a ticket (R137). -/
def ticketNet (type : TicketType) (entry : Option OpenEntry) (tare : Option Nat) (weight : Int) : Option Int :=
  match type with
  | .first => none
  | .second => entry.map fun e => match e.kind with
    | .receival => e.firstWeight - weight
    | .dispatch => weight - e.firstWeight
  | .onePass => tare.map fun t => weight - t

/-- The flags of a ticket (R138). -/
def ticketFlags (type : TicketType) (entry : Option OpenEntry) (net : Option Int) (p : Passage) (c : Capture) : TicketFlags where
  negativeNet := match net with
    | some n => decide (n < 0)
    | none => false
  generationChanged := type == .second && (match entry with
    | some e => e.calCount != c.calCount
    | none => false)
  axleOver := match p.axles with
    | some a => a.summary.verdict == .exceeded
    | none => false
  grossOver := match p.axles with
    | some a => a.grossOver
    | none => false
  axleCount := match p.axles with
    | some a => a.axleCountFlag
    | none => false
  probe := p.holds.contains .probe
  runThrough := p.runThrough

/-- The ticket record composed at acceptance (R139). -/
def composeTicket (s : State) (p : Passage) (i : Identity) (c : Capture) : Ticket :=
  let type := ticketType s i
  let entry := findOpen i.tag s.stc.store.transaction.table
  let net := ticketNet type entry i.tare c.weight
  { number := s.stc.store.ticket.next
    time := s.cck.time
    calCount := c.calCount
    body := .weighing
      { type := type
        tag := i.tag
        kind := match entry with
          | some e => e.kind
          | none => i.kind
        weight := c.weight
        firstPass := entry.map fun e => ⟨e.firstWeight, e.firstNumber, e.firstTime⟩
        tareSource := match type with
          | .first => none
          | .second => some .weighed
          | .onePass => some .preset
        net := net
        axles := p.axles.map (·.summary)
        passage := p.number
        flags := ticketFlags type entry net p c } }

/-- What the ticket's update does to the open transaction table (R141). -/
def tableChange (s : State) (p : Passage) (i : Identity) (c : Capture) : TableChange :=
  match ticketType s i with
  | .first => .insert
      { tag := i.tag, kind := i.kind, firstNumber := s.stc.store.ticket.next, firstWeight := c.weight,
        firstTime := c.time, calCount := c.calCount, verdict := p.axles.map (·.summary.verdict) }
  | .second => .remove i.tag
  | .onePass => .keep

/-- The issue of a ticket (R141): its update is handed to the STC and the passage moves to ISSUING with cause
ISSUE_STARTED (R123). -/
def issueTicket (p : Passage) (s : State) : State :=
  match p.identity, p.capture with
  | some i, some c =>
    let p' := { p with state := .issuing }
    report (some .captured) (some .issuing) .issueStarted none p'
      (setPassage p' (handUpdate (.ticket (composeTicket s p i c) (tableChange s p i c) (some p.number)) s))
  | _, _ => s

/-- A run-through reported to the TKU (R142): it sets the flag in the ticket's update while the update still
waits; the oldest update of the queue is being written. -/
def markRunThrough (number : BitVec 16) (s : State) : State :=
  let mark (u : Update) : Update :=
    match u with
    | .ticket t change (some n) =>
      if n = number then
        match t.body with
        | .weighing w => .ticket { t with body := .weighing { w with flags := { w.flags with runThrough := true } } } change (some n)
        | .audit _ => u
      else u
    | u => u
  { s with stc := { s.stc with queue := match s.stc.queue with
      | [] => []
      | writing :: waiting => writing :: waiting.map mark } }

/-! ## The change an update makes -/

/-- Posts a ticket or certificate: the slot at the fill pointer, the pointer, the next number (R141, R151). -/
def TicketArea.post (t : Ticket) (a : TicketArea) : TicketArea where
  next := a.next + 1
  ring := a.ring.set a.fill (some t)
  fill := (a.fill + 1) % Config.ringSize

/-- A ticket's change of the transaction area, with its counter (R133, R141). The removal and its count go
together (log 18). -/
def TransactionArea.change (c : TableChange) (a : TransactionArea) : TransactionArea :=
  match c with
  | .insert e => { a with table := insertOpen e a.table, firstCount := a.firstCount + 1 }
  | .remove tag =>
    if (findOpen tag a.table).isSome then { a with table := removeOpen tag a.table, secondCount := a.secondCount + 1 } else a
  | .keep => a

/-- A purge's change of the transaction area (R131, R133; log 18). -/
def TransactionArea.purge (tag : Tag) (a : TransactionArea) : TransactionArea :=
  if (findOpen tag a.table).isSome then { a with table := removeOpen tag a.table, purgeCount := a.purgeCount + 1 } else a

/-- The slot that holds a ticket number, if one is POSTED with it (R148, R150). -/
def TicketArea.slotOf (number : BitVec 32) (a : TicketArea) : Option Nat :=
  a.ring.findIdx? fun slot => match slot with
    | some t => t.number == number
    | none => false

/-- Frees the slot that holds a number (R148, R149). -/
def TicketArea.free (number : BitVec 32) (a : TicketArea) : TicketArea :=
  match a.slotOf number with
  | some i => { a with ring := a.ring.set i none }
  | none => a

/-- A commit's change of the calibration area (R163, R169): the trail keeps its newest 48 entries. -/
def CalArea.commit (set : CalSet) (entries : List TrailEntry) (a : CalArea) : CalArea where
  set := set
  count := a.count + 1
  trail := (a.trail ++ entries).drop (a.trail.length + entries.length - Config.trailCapacity)
  newest := a.newest + entries.length
  mark := a.mark

/-- The whole change of an update (R141, R148, R131, R151 with R187, R163, R175). -/
def Update.apply (u : Update) (st : Store) : Store :=
  match u with
  | .ticket t change _ => { st with ticket := st.ticket.post t, transaction := st.transaction.change change }
  | .certificate t pass mark =>
    { st with
      ticket := st.ticket.post t
      calibration := { st.calibration with mark := mark }
      reasons := if pass then [] else addReason .auditFailed st.reasons }
  | .release number => { st with ticket := st.ticket.free number }
  | .purge tag => { st with transaction := st.transaction.purge tag }
  | .commit set entries =>
    { st with calibration := st.calibration.commit set entries, reasons := addReason .calibrationChanged st.reasons }
  | .reason => { st with reasons := addReason .zeroLimit st.reasons }

/-- The number of POSTED slots (R149). -/
def State.postedCount (s : State) : Nat := (s.stc.store.ticket.ring.filter (·.isSome)).length

end Sys2Proof.Machine
end

