-- ==== Sys2Proof/Machine/Passages.lean ====
section
/-! DEFINITION. The Passage Unit (06): opening, moving onto the bridge, run-throughs, vanishing, leaving,
clearing, capture, binding, the hold set and the ticket request. -/

namespace Sys2Proof.Machine

/-- Notes the axle result in the passage record, and OVERLOAD where the verdict is OVER and the overload
action is HOLD (R119). -/
def Passage.judged (s : State) (p : Passage) : Passage :=
  match verdictOf s p with
  | some r =>
    { p with
      axles := some r
      holds := if r.summary.verdict == .exceeded && s.rnc.site.overloadHold then addHold .overload p.holds else p.holds }
  | none => p

/-- The AXM keeps a result it hands to the PSU (R86, R88). -/
def keepResult (r : Option AxleResult) (s : State) : State := { s with axm := { s.axm with result := r.or s.axm.result } }

/-! ## Ends of a passage -/

/-- The passage ends (R113, R114): IDLE is reported with the record as it stood, the record is discarded, and the AXM
is told. -/
def endPassage (cause : PassageCause) (stamp : Option Stamp) (p : Passage) (s : State) : State :=
  clearAxles (report (some p.state) none cause stamp p
    { s with psu := { s.psu with passage := none, captureTimer := none } })

/-- Opens a passage (R105). -/
def openPassage (intruder : Bool) (stamp : Option Stamp) (s : State) : State :=
  let p : Passage :=
    { number := s.psu.counter + 1, state := .arriving, intruder := intruder, runThrough := false, identity := none,
      capture := none, axles := none, holds := [], ticket := none }
  let s := report none (some .arriving) .entered stamp p
    { s with psu := { s.psu with passage := some p, counter := p.number } }
  if s.padDesignated then startChecking s else s

/-- LEAVING ends with the exit loop accepted clear (R113); with the entry loop occupied a new passage opens at
once as an intruder (R106). -/
def passageLeft (stamp : Option Stamp) (p : Passage) (s : State) : State :=
  let s := endPassage .left stamp p s
  if s.scanning && s.ylu.entryLoop.accepted == some true then
    openPassage true (s.ylu.entryLoop.last.map (·.stamp)) s
  else s

/-- Checking ends when the passage leaves ARRIVING or ON_BRIDGE other than by capture (R81). -/
def endCheckingFrom (state : PassageState) (s : State) : State :=
  if state == .arriving || state == .onBridge then endChecking s else s

/-- Moves to LEAVING (R108, R109, R112), and on to IDLE where the exit loop is already accepted clear (R113). `p` is
the record with its flags and holds as LEAVING has them; its state is still the one before. -/
def toLeaving (cause : PassageCause) (stamp : Option Stamp) (p : Passage) (s : State) : State :=
  let p' := { p with state := .leaving }
  let s := report (some p.state) (some .leaving) cause stamp p'
    (setPassage p' (endCheckingFrom p.state (stopCaptureTimer s)))
  if s.exitClear then passageLeft stamp p' s else s

/-- CLEARING ends when both loops are accepted clear and the latest W is below 20d (R114). -/
def judgeClearing (stamp : Option Stamp) (s : State) : State :=
  match s.psu.passage with
  | some p =>
    if p.state == .clearing && s.entryClear && s.exitClear && !s.heavy s.latestWeight then endPassage .cleared stamp p s else s
  | none => s

/-- Moves to CLEARING (R107, R110, R111, R125): waits are removed, the capture timer stops, checking ends, and
the end of CLEARING is judged on entering it (R114). -/
def toClearing (cause : PassageCause) (stamp : Option Stamp) (p : Passage) (s : State) : State :=
  let p' := { p with state := .clearing, holds := dropWaits p.holds }
  judgeClearing stamp (report (some p.state) (some .clearing) cause stamp p'
    (setPassage p' (endCheckingFrom p.state (stopCaptureTimer s))))

/-! ## Loop changes -/

/-- Both loops clear in ARRIVING (R107): onto the bridge, or backed out. -/
def moveOnBridge (stamp : Option Stamp) (p : Passage) (s : State) : State :=
  if !s.axm.list.isEmpty || s.heavy s.latestWeight then
    let p' := { p with state := .onBridge }
    let s := report (some .arriving) (some .onBridge) .on stamp p' (setPassage p' s)
    if p.intruder then s else { s with psu := { s.psu with captureTimer := some s.ylu.timebase } }
  else toClearing .backedOut stamp p s

/-- Raises RUN_THROUGH with the state the passage was in (R108, R109, R112). -/
def raiseRunThrough (stamp : Stamp) (p : Passage) (s : State) : State := raise (.runThrough p.number p.state stamp) s

/-- An ENTRY_LOOP change (R105, R107, R114); `green` is the level of ENTRY_GREEN carried with it (R57). -/
def entryChange (occupied green : Bool) (stamp : Stamp) (s : State) : State :=
  match s.psu.passage with
  | none => if occupied && s.scanning then openPassage (!green) (some stamp) s else s
  | some p =>
    match p.state with
    | .arriving => if !occupied && s.exitClear then moveOnBridge (some stamp) p s else s
    | .clearing => judgeClearing (some stamp) s
    | _ => s

/-- An EXIT_LOOP occupied change (R108, R109, R111, R112). -/
def exitOccupied (stamp : Stamp) (p : Passage) (s : State) : State :=
  match p.state with
  | .arriving | .onBridge | .captured =>
    if p.intruder then s
    else
      toLeaving .runThrough (some stamp) { p with runThrough := true, holds := dropWaits p.holds } (raiseRunThrough stamp p s)
  | .issuing =>
    raiseRunThrough stamp p (markRunThrough p.number (setPassage { p with runThrough := true } s))
  | .done =>
    if p.holds.isEmpty then toLeaving .exit (some stamp) p s
    else toLeaving .exit (some stamp) { p with runThrough := true } (raiseRunThrough stamp p s)
  | .leaving => s
  | .clearing => judgeClearing (some stamp) s

/-- An EXIT_LOOP clear change (R107, R111, R113, R114). -/
def exitCleared (stamp : Stamp) (p : Passage) (s : State) : State :=
  match p.state with
  | .arriving =>
    if p.intruder then toClearing .intruderLeft (some stamp) p s
    else if s.entryClear then moveOnBridge (some stamp) p s else s
  | .onBridge => if p.intruder then toClearing .intruderLeft (some stamp) p s else s
  | .leaving => passageLeft (some stamp) p s
  | .clearing => judgeClearing (some stamp) s
  | _ => s

/-- An EXIT_LOOP change. -/
def exitChange (occupied : Bool) (stamp : Stamp) (s : State) : State :=
  match s.psu.passage with
  | none => s
  | some p => if occupied then exitOccupied stamp p s else exitCleared stamp p s

/-! ## The hold set and the ticket request -/

/-- Judges the ticket request after a hold has left the set of a passage (R121, R122): accepted, the removal is
reported with ISSUE_STARTED; otherwise with HOLD_CHANGE, and a new wait with a HOLD_CHANGE of its own
(R120, log 11). -/
def judgeAfterRemoval (p : Passage) (s : State) : State :=
  match requestOutcome s p with
  | .accepted => issueTicket p s
  | .notMade => report (some p.state) (some p.state) .holdChange none p (setPassage p s)
  | .refused r =>
    let p' := { p with holds := addHold r p.holds }
    report (some p.state) (some p.state) .holdChange none p'
      (setPassage p' (report (some p.state) (some p.state) .holdChange none p (setPassage p s)))

/-- A block reports that a waited-on condition has ended (R122). -/
def waitEnded (w : HoldReason) (s : State) : State :=
  match s.psu.passage with
  | some p => if p.holds.contains w then judgeAfterRemoval { p with holds := dropHold w p.holds } s else s
  | none => s

/-! ## Capture -/

/-- The conditions of R115 that a record fails, in the rule's order. -/
def captureFailures (s : State) (r : WeightRecord) : List CaptureCondition :=
  (if s.rnc.runState == .run then [] else [.running]) ++ (if r.valid then [] else [.valid]) ++
  (if r.stable then [] else [.stable]) ++ (if r.test then [.notTest] else []) ++
  (if r.range == .inRange then [] else [.inRange]) ++ (if s.heavy r.weight then [] else [.heavy])

/-- Captures the weight of a passage (R115), in the rule's order; the CAPTURE report follows the judgement of the
request (log 10). -/
def capture (r : WeightRecord) (p : Passage) (s : State) : State :=
  let c : Capture :=
    { weight := r.weight, scan := r.scan, stamp := s.ylu.timebase, time := s.cck.time, calCount := r.calCount }
  let p1 := { p with state := .captured, capture := some c, holds := dropHold .unstable p.holds }
  let s := captureAxles (stopCaptureTimer (setPassage p1 s))
  let p2 := p1.judged s
  let s := keepResult p2.axles (setPassage p2 s)
  match requestOutcome s p2 with
  | .accepted => report (some .onBridge) (some .captured) .capture none p2 (issueTicket p2 s)
  | .refused w =>
    let p3 := { p2 with holds := addHold w p2.holds }
    report (some .onBridge) (some .captured) .capture none p3 (setPassage p3 s)
  | .notMade => report (some .onBridge) (some .captured) .capture none p2 s

/-- The PSU takes a bridge weight record (R110, R114, R115). -/
def recordTaken (r : WeightRecord) (s : State) : State :=
  match s.psu.passage with
  | none => s
  | some p =>
    match p.state with
    | .onBridge | .captured =>
      if r.stable && !s.heavy r.weight && s.entryClear && s.exitClear then toClearing .vanished none p s
      else if p.state == .onBridge && !p.intruder && (captureFailures s r).isEmpty then capture r p s
      else s
    | .clearing => judgeClearing none s
    | _ => s

/-- The capture timer runs out in ON_BRIDGE (R116). The run-state condition among those the latest record failed is judged
with the run state at the expiry (DESIGN CHOICE, log 36). -/
def captureTimedOut (p : Passage) (s : State) : State :=
  let failed := match s.wge.latest with
    | some r => captureFailures s r
    | none => [.valid, .stable, .inRange, .heavy]
  let p' := { p with holds := addHold .unstable p.holds }
  let s := raise (.captureTimeout p.number failed) (stopCaptureTimer (setPassage p' s))
  report (some p.state) (some p.state) .holdChange none p' s

/-! ## Binding -/

/-- The holds that binding adds (R118). -/
def bindingHolds (s : State) (l : Lookup) (holds : List HoldReason) : List HoldReason :=
  let holds := if !l.listed && !s.rnc.site.admitUnlisted then addHold .unlisted holds else holds
  let holds := if l.listed && l.blocked then addHold .blocked holds else holds
  if l.probe then addHold .probe holds else holds

/-- The passage record after binding and, where it is captured, the verdict (R118, R119). -/
def Passage.bound (s : State) (tag : Tag) (kind : TransactionKind) (onePass : Bool) (p : Passage) : Passage :=
  let l := lookupTag s tag
  let p := { p with
    identity := some
      { tag := tag, kind := kind, onePass := onePass, listed := l.listed, cls := l.cls, tare := l.tare,
        presetAllowed := l.presetAllowed, tareOffDivision := l.tareOffDivision }
    holds := bindingHolds s l p.holds }
  p.judged s

/-- Discards the passage on entry to HALTED (R127). -/
def discardPassage (s : State) : State :=
  match s.psu.passage with
  | some p => endPassage .halt none p s
  | none => { s with psu := { s.psu with captureTimer := none } }

end Sys2Proof.Machine
end

