-- ==== Sys2Proof/Machine/Trade.lean ====
section
/-! DEFINITION. Changes of the trade status (R173 to R176) and the Verification Unit's part in a zero-limit
notice (R175). -/

namespace Sys2Proof.Machine

/-- What the VFU does after a change of its reason set (R176): when the status differs from `before`, the event is
raised and, where it became VERIFIED, the PSU is told that NOT_VERIFIED has ended. -/
def statusChange (cause : TradeCause) (before : Bool) (s : State) : State :=
  if s.verified = before then s
  else
    let s' := raise (.tradeStatusChanged s.verified s.reasonSet s.vfu.zeroLimitPending cause) s
    if s.verified then waitEnded .notVerified s' else s'

/-- The WGE's notice that a zero-limit flag has latched (R175). -/
def zeroLimitNotice (s : State) : State :=
  if s.reasonSet.contains .zeroLimit then s
  else
    statusChange .zeroLimit s.verified
      (handUpdate .reason { s with vfu := { s.vfu with zeroLimitPending := true } })

end Sys2Proof.Machine
end

