-- ==== Sys2Proof/Machine/Weigh.lean ====
section
/-! DEFINITION. The Weighing Engine (02): cell correction, the deck's histories, states and zeros, the bridge
weight record, and the work of one handoff. -/

namespace Sys2Proof.Machine

/-! ## Cell correction and deck sum -/

/-- The largest magnitude of a corrected cell weight, in grams (R25). -/
def cellLimit : Int := 2000000000

/-- The corrected cell weight before clamping: (c − o) × G × K / 2,147,483,648, rounded (R25). -/
def CellCal.weight (c : CellCal) (count : Int) : Int :=
  roundDiv ((count - c.offset) * (c.gain : Int) * (c.corner : Int)) 2147483648

/-- A corrected cell weight clamped to ±2,000,000,000 g (R25). -/
def clampWeight (w : Int) : Int := if cellLimit < w then cellLimit else if w < -cellLimit then -cellLimit else w

/-- A cell's sample in a complete deck: its node, count and over-range flag (R23). -/
structure CellSample where
  node : Nat
  count : Int
  overRange : Bool
deriving DecidableEq, Repr

/-- The samples of a deck's cells; none when any of them has no SAMPLE slot, so that the deck's scan is
incomplete (R24). -/
def deckSamples (slots : List (Nat × Slot)) : List Nat → Option (List CellSample)
  | [] => some []
  | n :: rest =>
    match slots.lookup n, deckSamples slots rest with
    | some (.sample count overRange), some samples => some (⟨n, count, overRange⟩ :: samples)
    | _, _ => none

/-- The deck sum S (R26). -/
def deckSum (c : CalSet) (samples : List CellSample) : Int :=
  sumInt (samples.map fun x => clampWeight ((c.cell x.node).weight x.count))

/-- Any cell was clamped or carried the over-range flag (R25). -/
def deckOver (c : CalSet) (samples : List CellSample) : Bool :=
  samples.any fun x => x.overRange || decide (cellLimit < (c.cell x.node).weight x.count) ||
    decide ((c.cell x.node).weight x.count < -cellLimit)

/-! ## One deck -/

/-- The deck state derived from its three facts (R29). -/
def Deck.derived (d : Deck) : DeckState :=
  if d.faulted then .fault else if d.initialZero.isNone then .noZero else if 1 ≤ d.hold then .held else .valid

/-- A deck without an initial zero takes z_cal before the sum is formed, while the passage is IDLE (R34,
log 12). -/
def Deck.loadZero (zeroCal : Int) (idle : Bool) (d : Deck) : Deck :=
  if d.initialZero.isNone && idle then { d with zero := zeroCal } else d

/-- A complete scan: the histories, F, stability, the hold count and the OVER flag (R26 to R28, R32). -/
def Deck.complete (c : CalSet) (sum : Int) (overScan : Bool) (d : Deck) : Deck :=
  let filter := pushHistory c.filterLength d.filter (sum - d.zero)
  let value := roundDiv (sumInt filter) filter.length
  let stability := pushHistory c.stabilityWindow d.stability value
  let d' := { d with
    filter := filter
    value := some value
    stability := stability
    stable := decide (stability.length = c.stabilityWindow) &&
      decide (spread stability ≤ (c.motionBand * c.division * 500 : Nat))
    hold := 0
    faulted := false
    overFlag := overScan }
  { d' with state := d'.derived }

/-- Both histories are emptied and F becomes absent; the deck is no longer stable (R22, log 14). -/
def Deck.emptied (d : Deck) : Deck := { d with filter := [], stability := [], value := none, stable := false }

/-- A zero reload of a configured deck (R34). -/
def Deck.reloaded (d : Deck) : Deck :=
  { d.emptied with initialZero := none, state := .noZero, hold := 0, trackRun := 0, faulted := false, overFlag := false }

/-- An incomplete scan makes the hold count greater than the hold limit of a deck that has not faulted. -/
def Deck.faults (holdLimit : Nat) (d : Deck) : Bool := !d.faulted && decide (holdLimit < d.hold + 1)

/-- An incomplete scan (R30, R31): the hold count rises, the deck is not stable, the zero-track run is 0, and the
deck faults when the hold count passes the hold limit. -/
def Deck.incomplete (holdLimit : Nat) (d : Deck) : Deck :=
  let held := { d with hold := saturatingSucc 255 d.hold, stable := false, trackRun := 0 }
  let d' := if d.faults holdLimit then { held.emptied with faulted := true, overFlag := false } else held
  { d' with state := d'.derived }

/-- A correction of the working zero: z rises by x and every value of both histories falls by x (R35, R36,
R39). -/
def Deck.rebased (x : Int) (d : Deck) : Deck :=
  { d with zero := d.zero + x, filter := d.filter.map (· - x), stability := d.stability.map (· - x),
           value := d.value.map (· - x) }

/-- The conditions of the initial zero that the deck itself shows (R35); the scan is complete. -/
def Deck.takesInitialZero (c : CalSet) (d : Deck) : Bool :=
  d.state == .noZero && d.stable && (match d.value with
    | some f => decide (f.natAbs ≤ c.maxLoad * 100)
    | none => false)

/-- The initial zero (R35). -/
def Deck.withInitialZero (d : Deck) : Deck :=
  let d' := d.rebased (d.value.getD 0)
  { d' with initialZero := some d'.zero, trackRun := 0, state := .valid }

/-- The zero limit, Max × 20 g (R39). -/
def CalSet.zeroLimit (c : CalSet) : Int := (c.maxLoad : Int) * 20

/-- The tracking correction: F, cut where z would leave the zero limit (R39). -/
def Deck.correction (c : CalSet) (initial : Int) (f : Int) (d : Deck) : Int :=
  let moved := d.zero + f - initial
  if c.zeroLimit < moved then c.zeroLimit - (d.zero - initial)
  else if moved < -c.zeroLimit then -c.zeroLimit - (d.zero - initial)
  else f

/-- A tracking correction on a deck with an initial zero and F (R38, R39): the run returns to 0, and a cut
latches the zero-limit flag. -/
def Deck.tracked (c : CalSet) (initial f : Int) (d : Deck) : Deck :=
  let x := d.correction c initial f
  { d.rebased x with trackRun := 0, zeroLimit := d.zeroLimit || decide (x ≠ f) }

/-- The conditions of zero tracking that the deck itself shows (R38). -/
def Deck.trackable (c : CalSet) (d : Deck) : Bool :=
  d.state == .valid && d.stable && (match d.value with
    | some f => decide (f.natAbs ≤ c.division * 500)
    | none => false)

/-- The conditions of zero tracking that the part shows (R38). -/
def State.tracking (s : State) : Bool :=
  s.idle && s.vfu.session.isNone && !s.calibrating && s.rnc.runState == .run

/-! ## The decks of the state -/

/-- Deck i, absent when not configured. -/
def Wge.deck (w : Wge) (i : Nat) : Option Deck := w.decks.getD i none

/-- Replaces deck i. -/
def setDeck (i : Nat) (d : Deck) (s : State) : State :=
  { s with wge := { s.wge with decks := s.wge.decks.set i (some d) } }

/-- The tracking correction of deck i, with the event and the notice at a fresh latch (R39, R175). -/
def trackDeck (i : Nat) (d : Deck) (s : State) : State :=
  match d.initialZero, d.value with
  | some initial, some f =>
    let d' := d.tracked s.setInUse initial f
    let s' := setDeck i d' s
    if d'.zeroLimit && !d.zeroLimit then zeroLimitNotice (raise (.zeroLimit i) s') else s'
  | _, _ => setDeck i { d with trackRun := 0 } s

/-- The zero actions of a complete deck (R35, R38, R39, log 13). -/
def zeroActions (i : Nat) (d : Deck) (s : State) : State :=
  let c := s.setInUse
  if s.idle && s.rnc.runState == .run && d.takesInitialZero c then setDeck i d.withInitialZero s
  else if s.tracking && d.trackable c then
    if c.zeroTrackWindow ≤ d.trackRun + 1 then trackDeck i d s else setDeck i { d with trackRun := d.trackRun + 1 } s
  else setDeck i { d with trackRun := 0 } s

/-- The work of a handoff on one configured deck (R23 step 1). -/
def workDeck (slots : List (Nat × Slot)) (i : Nat) (s : State) : State :=
  match s.wge.deck i with
  | none => s
  | some d =>
    let c := s.setInUse
    let d := d.loadZero (c.deck i).zeroCal s.idle
    match deckSamples slots (maskNodes (c.deck i).mask) with
    | some samples =>
      let d' := d.complete c (deckSum c samples) (deckOver c samples)
      zeroActions i d' (if d.faulted then raise (.deckRecovered i) s else s)
    | none =>
      let d' := d.incomplete s.rnc.site.holdLimit
      setDeck i d' (if d.faults s.rnc.site.holdLimit then raise (.deckFault i) s else s)

/-- The pad deck's raw gross of a handoff, before the deck's work: none is the mark "incomplete" (R26). -/
def padGross (slots : List (Nat × Slot)) (s : State) : Option Int :=
  match s.wge.deck 0 with
  | none => none
  | some d =>
    let c := s.setInUse
    (deckSamples slots (maskNodes (c.deck 0).mask)).map fun samples =>
      deckSum c samples - (d.loadZero (c.deck 0).zeroCal s.idle).zero

/-! ## The bridge -/

/-- A deck as the record shows it (R41, R46). -/
def Deck.view (c : CalSet) (i : Nat) (d : Deck) : DeckView where
  inBridge := (c.deck i).inBridge
  state := d.state
  value := d.value
  indication := d.value.map fun f => indicate c.division f 1
  stable := d.stable
  overFlag := d.overFlag
  zeroLimit := d.zeroLimit

/-- The four decks as the record shows them (R46). -/
def deckViews (c : CalSet) (decks : List (Option Deck)) : List (Option DeckView) :=
  decks.mapIdx fun i d => d.map (·.view c i)

/-- The in-bridge decks of a record's decks. -/
def bridgeDecks (views : List (Option DeckView)) : List DeckView :=
  views.filterMap fun v => v.filter (·.inBridge)

/-- The bridge gross ΣF (R42). -/
def bridgeGross (decks : List DeckView) : Int := sumInt (decks.filterMap (·.value))

/-- The bridge range (R43). -/
def bridgeRange (c : CalSet) (decks : List DeckView) (weight : Int) : BridgeRange :=
  if decks.any (·.overFlag) || decide (((c.maxLoad + 9 * c.division : Nat) : Int) < weight) then .overRange
  else if weight < -((20 * c.division : Nat) : Int) then .underRange
  else .inRange

/-- A deck that keeps the bridge valid (R44). -/
def DeckView.keepsValid (v : DeckView) : Bool := v.state == .valid || (v.state == .held && v.value.isSome)

/-- Any in-bridge deck has a cell in reference (R45). -/
def State.bridgeInReference (s : State) : Bool :=
  (List.range 4).any fun i =>
    (s.wge.deck i).isSome && (s.setInUse.deck i).inBridge &&
      (maskNodes (s.setInUse.deck i).mask).any fun n => (s.clc.node n).inReference

/-- The bridge weight record of a handoff (R41 to R46), with the run state's WARMUP mark at its publication (R205). -/
def weightRecord (scan : BitVec 32) (s : State) : WeightRecord :=
  let c := s.setInUse
  let views := deckViews c s.wge.decks
  let bridge := bridgeDecks views
  let weight := indicate c.division (bridgeGross bridge) 1
  { scan := scan
    calCount := s.stc.store.calibration.count
    decks := views
    weight := weight
    range := bridgeRange c bridge weight
    valid := !bridge.isEmpty && bridge.all (·.keepsValid)
    stable := !bridge.isEmpty && bridge.all (fun v => v.state == .valid && v.stable)
    test := s.calibrating || s.bridgeInReference
    warmup := s.rnc.runState == .warmup }

/-! ## Publishing -/

/-- The WEIGHT frame of a record (R201, R205): the foremost condition is judged at the offer, WARMUP was fixed at the
publication. -/
def weightFrame (r : WeightRecord) (s : State) : WeightFrame :=
  { record := r, foremost := s.foremost }

/-- The stream reaches its interval with the next record (R47). -/
def State.offerDue (s : State) : Bool := s.tli.interval != 0 && decide (s.tli.interval ≤ s.wge.streamCount + 1)

/-- The stream count after a published record (R47). -/
def countStream (s : State) : State :=
  { s with wge := { s.wge with
      streamCount := if s.tli.interval == 0 || s.offerDue then 0 else s.wge.streamCount + 1 } }

/-- A record is offered to the WEIGHT slot (R47). -/
def offerRecord (r : WeightRecord) (s : State) : State := { s with tli := s.tli.offerWeight (weightFrame r s) }

/-- The deliveries of a published record (R46): the PSU, the AXM's pad result while the pad is designated, and
the offer. No order among them is specified (log 8). -/
def recordDeliveries (r : WeightRecord) (pad : Option Int) (s : State) : List (State → State) :=
  [recordTaken r] ++ (if s.padDesignated then [padResult pad] else []) ++
    (if s.offerDue then [offerRecord r] else [])

/-- The order of the deliveries can show: the AXM is checking, or the offer meets an idle transmitter
(log 8). -/
def recordOrderShows (s : State) : Bool := s.axm.checking || (s.offerDue && s.tli.sending.isNone)

/-- Publishes the record and makes its deliveries (R46, R47). -/
def publishRecord (r : WeightRecord) (pad : Option Int) (s : State) : State :=
  let acts := recordDeliveries r pad s
  let shows := recordOrderShows s
  inAnyOrder shows acts (countStream { s with wge := { s.wge with latest := some r } })

/-- The change of run state (R207). -/
def setRunState (next : RunState) (s : State) : State :=
  raise (.runStateChanged s.rnc.runState next) { s with rnc := { s.rnc with runState := next } }

/-- Warm-up counts the handoff and may end (R207). -/
def countWarmup (s : State) : State :=
  if s.rnc.runState == .warmup then
    let s' := { s with rnc := { s.rnc with warmupCount := s.rnc.warmupCount + 1 } }
    if s.rnc.warmupLength ≤ s.rnc.warmupCount + 1 then setRunState .run s' else s'
  else s

/-- The work of one handoff (R23). -/
def workHandoff (scan : BitVec 32) (slots : List (Nat × Slot)) (s : State) : State :=
  let pad := padGross slots s
  let s := (List.range 4).foldl (fun s i => workDeck slots i s) s
  countWarmup (publishRecord (weightRecord scan s) pad s)

/-! ## The set in use changes (R22, R34) -/

/-- The change of the set in use asks for a zero reload (R22, R34). -/
def CalSet.reloads (old new : CalSet) : Bool :=
  old.decks.map (·.mask) != new.decks.map (·.mask) || old.division != new.division || old.maxLoad != new.maxLoad

/-- The change of the set in use empties the histories (R22). -/
def CalSet.empties (old new : CalSet) : Bool :=
  old.filterLength != new.filterLength || old.stabilityWindow != new.stabilityWindow

/-- A deck under a changed set in use (R22): configured by its mask, begun afresh when it was not, reloaded or
emptied as the change asks. -/
def deckUnder (old new : CalSet) (reload : Bool) (i : Nat) (d : Option Deck) : Option Deck :=
  if (new.deck i).mask == 0 then none
  else
    match d with
    | none => some (.fresh (new.deck i).zeroCal)
    | some d => some (if reload then d.reloaded else if old.empties new then d.emptied else d)

/-- The WGE takes a change of the set in use from `old` to the set now in use; `reload` asks for a zero reload
besides the ones the change itself asks for (R22, R34). -/
def weighUnder (old : CalSet) (reload : Bool) (s : State) : State :=
  let new := s.setInUse
  { s with wge := { s.wge with
      decks := s.wge.decks.mapIdx (deckUnder old new (reload || old.reloads new)) } }

/-- START: both histories of every configured deck are emptied and a zero reload is requested (R49). -/
def reloadDecks (s : State) : State :=
  { s with wge := { s.wge with decks := s.wge.decks.map (Option.map Deck.reloaded) } }

/-- The initial zeros are rebased and the zero-limit flags cleared at a passing audit (R40). -/
def rebaseZeros (s : State) : State :=
  { s with wge := { s.wge with
      decks := s.wge.decks.map (Option.map fun d =>
        { d with initialZero := d.initialZero.map fun _ => d.zero, zeroLimit := false }) } }

end Sys2Proof.Machine
end

