-- ==== Sys2Proof/Machine/Calibration.lean ====
section
/-! DEFINITION. The Calibration Unit (08): the set in use as its readers take it, calibration mode, the staged
set, the commit and the audit trail. -/

namespace Sys2Proof.Machine

/-! ## The set in use (R156) -/

/-- The passage is in a state in which axles are checked (R65). -/
def State.axleStates (s : State) : Bool :=
  match s.psu.passage with
  | some p => p.state == .arriving || p.state == .onBridge
  | none => false

/-- The AXM takes a change of the pad designation (R65, R81). -/
def axlesUnder (old : CalSet) (s : State) : State :=
  if !old.padDeck && s.padDesignated && s.axleStates then startChecking s
  else if old.padDeck && !s.padDesignated && s.axm.checking then endChecking s
  else s

/-- The WGE and the AXM take a change of the set in use from `old` (R156). The CLC reads its poll list when the next
scan begins (R3). -/
def setChanged (old : CalSet) (reload : Bool) (s : State) : State := axlesUnder old (weighUnder old reload s)

/-- Calibration mode ends (R164, R167): the staged set is discarded and the committed set is in use, with a zero
reload. -/
def endCalibration (s : State) : State :=
  match s.clu.staged with
  | some staged => setChanged staged true { s with clu := { staged := none, openingRecorded := false } }
  | none => { s with clu := { s.clu with openingRecorded := false } }

/-- The number of changed parameters k (R161). -/
def State.changedCount (s : State) : Nat :=
  match s.clu.staged with
  | some staged => (changedParams staged s.committed).length
  | none => 0

/-- A commit update is in flight (R163). -/
def State.commitInFlight (s : State) : Bool :=
  s.stc.queue.any fun u => match u with
    | .commit .. => true
    | _ => false

/-! ## Directives -/

/-- ENTER_CAL (R157, R158). -/
def enterCal (s : State) : State :=
  if s.rnc.runState != .run then answer .wrongState .nothing s
  else if s.calibrating then answer .wrongState .nothing s
  else if !s.switchClosed then answer .switchOpen .nothing s
  else if !s.idle then answer .busy .nothing s
  else if s.vfu.session.isSome then answer .busy .nothing s
  else
    answer .done (.entered s.stc.store.calibration.count s.unaudited (Config.trailCapacity - s.unaudited))
      { s with clu := { staged := some s.committed, openingRecorded := false } }

/-- SET_PARAM on the staged set (R159). -/
def writeParam (p : ParamId) (value : Int) (staged : CalSet) (s : State) : State :=
  let next := staged.set value p
  let s' := setChanged staged false { s with clu := { s.clu with staged := some next } }
  answer .done (.paramSet (staged.get p) (next.get p) s'.changedCount) s'

/-- SET_PARAM (R159). -/
def setParam (identifier place : Byte) (value : BitVec 32) (s : State) : State :=
  match s.clu.staged with
  | none => answer .wrongState .nothing s
  | some staged =>
    match paramOf identifier place with
    | none => answer .badValue .nothing s
    | some p => if p.inRange (signed32 value) then writeParam p (signed32 value) staged s else answer .badValue .nothing s

/-- READ_PARAM's reply (R160). -/
def paramReply (p : ParamId) (value : Int) (s : State) : Result :=
  .paramRead value (s.clu.staged.map fun c => c.get p != s.committed.get p)
    (if s.calibrating then some s.changedCount else none) s.stc.store.calibration.count

/-- READ_PARAM (R160). -/
def readParam (identifier place selection : Byte) (s : State) : State :=
  match paramOf identifier place, selectionOf selection with
  | some p, some true =>
    match s.clu.staged with
    | some staged => answer .done (paramReply p (staged.get p) s) s
    | none => answer .wrongState .nothing s
  | some p, some false =>
    if s.calibrationDamaged then answer .noCalibration .nothing s
    else answer .done (paramReply p (s.committed.get p) s) s
  | _, _ => answer .badValue .nothing s

/-- The commit update is handed to the STC and holds the directive queue (R163, R195). -/
def handCommit (staged : CalSet) (s : State) : State :=
  let area := s.stc.store.calibration
  let entries := trailEntries staged s.committed area.newest (area.count + 1) s.cck.time
  holdQueue (handUpdate (.commit staged entries) { s with clu := { s.clu with openingRecorded := false } })

/-- COMMIT_CAL (R162, R163). -/
def commitCal (s : State) : State :=
  match s.clu.staged with
  | none => answer .wrongState .nothing s
  | some staged =>
    let area := s.stc.store.calibration
    let k := s.changedCount
    if !s.switchClosed then answer .switchOpen .nothing s
    else if !s.cck.isSet then answer .clockUnset .nothing s
    else if !s.idle then answer .busy .nothing s
    else
      match commitFlaw staged area.count area.newest k with
      | some flaw => answer .badValue (.commitFlaw flaw) s
      | none =>
        if Config.trailCapacity < k + s.unaudited then answer .trailFull (.trailFull k s.unaudited) s
        else if k == 0 then answer .badValue .nothing s
        else if s.stc.fault then answer .storeFault .nothing s
        else handCommit staged s

/-- LEAVE_CAL (R167). -/
def leaveCal (s : State) : State :=
  if s.calibrating then answer .done (.count s.changedCount) (endCalibration s) else answer .wrongState .nothing s

/-- READ_TRAIL (R171). -/
def readTrail (start : BitVec 32) (s : State) : State :=
  if s.calibrationDamaged then answer .noCalibration .nothing s
  else
    let area := s.stc.store.calibration
    let found := area.trail.filter fun e => decide (start.toNat ≤ e.sequence)
    answer .done
      (.trail (found.take 8) (area.trail.head?.map (·.sequence)) area.newest area.mark (decide (8 < found.length))) s

/-! ## The calibration switch (R167) -/

/-- CAL_SWITCH_OPENED: calibration mode ends without a commit, and the event carries the number of changed parameters
discarded (R165, R167). -/
def calSwitchOpened (s : State) : State := raise (.calSwitchOpened s.changedCount) (endCalibration s)

/-- An accepted opening of CAL_SWITCH (R163, R167). -/
def switchOpened (s : State) : State :=
  if !s.calibrating then s
  else if s.commitInFlight then { s with clu := { s.clu with openingRecorded := true } }
  else calSwitchOpened s

end Sys2Proof.Machine
end

