-- ==== Sys2Proof/Machine/Audit.lean ====
section
/-! DEFINITION. The Verification Unit (09): the audit session, load points, reference points and the
certificate. -/

namespace Sys2Proof.Machine

/-! ## Sessions -/

/-- Replaces the audit session. -/
def setSession (session : Option Session) (s : State) : State := { s with vfu := { s.vfu with session := session } }

/-- OPEN_AUDIT (R177). -/
def openAudit (s : State) : State :=
  if s.rnc.runState != .run then answer .wrongState .nothing s
  else if s.vfu.session.isSome then answer .wrongState .nothing s
  else if s.calibrating then answer .busy .nothing s
  else if !s.idle then answer .busy .nothing s
  else
    let opening := if s.cck.isSet then some s.cck.time else none
    answer .done (.auditOpened opening s.stc.store.calibration.count s.reasonSet s.unaudited)
      (setSession (some { opening := opening, points := [], check := none }) s)

/-- ABORT_AUDIT (R190). -/
def abortAudit (s : State) : State :=
  match s.vfu.session with
  | none => answer .wrongState .nothing s
  | some session => answer .done (.count session.points.length) (setSession none s)

/-! ## Load points -/

/-- The MPE of a declared load, in units of 0.1 kg (R181). -/
def loadMpe (division declared : Nat) : Nat :=
  if declared ≤ 500 * division then 5 * division
  else if declared ≤ 2000 * division then 10 * division
  else 15 * division

/-- The reading of a quantity in grams, in units of 0.1 kg (R180). -/
def loadReading (division : Nat) (grams : Int) : Int := roundDiv grams (100 * division) * division

/-- The load point of a reading (R180, R181). -/
def loadPoint (division : Nat) (target : PointTarget) (declared : Nat) (grams : Int) : LoadPoint :=
  let reading := loadReading division grams
  { target := target, declared := declared, reading := reading, error := reading - 10 * declared,
    mpe := loadMpe division declared }

/-- A load point passes when its error's magnitude is at most the MPE (R181). -/
def LoadPoint.pass (p : LoadPoint) : Bool := decide (p.error.natAbs ≤ p.mpe)

/-- The quantity a target reads in a record, when the target may be read (R179 row 6, R180). -/
def targetGrams (r : WeightRecord) : PointTarget → Option Int
  | .bridge => if r.stable then some (bridgeGross (bridgeDecks r.decks)) else none
  | .deck i =>
    match r.decks.getD i none with
    | some v => if v.state == .valid && v.stable then v.value else none
    | none => none

/-- A target the committed set does not configure (R179 row 3). -/
def PointTarget.missing (c : CalSet) : PointTarget → Bool
  | .bridge => false
  | .deck i => (c.deck i).mask == 0

/-- CAPTURE_POINT (R179). -/
def capturePoint (target : Byte) (declared : BitVec 32) (s : State) : State :=
  match targetOf target with
  | none => answer .badValue .nothing s
  | some t =>
    if 200000 < declared.toNat then answer .badValue .nothing s
    else
      match s.vfu.session with
      | none => answer .wrongState .nothing s
      | some session =>
        if t.missing s.committed then answer .notFound .nothing s
        else if !s.idle then answer .busy .nothing s
        else if Config.pointCapacity ≤ session.points.length then answer .listFull .nothing s
        else
          match s.wge.latest.bind (targetGrams · t) with
          | none => answer .unstable .nothing s
          | some grams =>
            let p := loadPoint s.committed.division t declared.toNat grams
            let point : Point := { index := session.points.length + 1, pass := p.pass, body := .load p }
            answer .done (.point point) (setSession (some { session with points := session.points ++ [point] }) s)

/-! ## Reference points -/

/-- The VFU asks the CLC for a mode on a node (R14): the command is undelivered. -/
def askMode (node : Nat) (mode : NodeMode) (s : State) : State :=
  { s with clc := s.clc.setNode node { s.clc.node node with mode := mode, delivered := false } }

/-- CHECK_REFERENCE (R182). -/
def checkReference (cell : Byte) (s : State) : State :=
  match nodeOf cell with
  | none => answer .badValue .nothing s
  | some n =>
    match s.vfu.session with
    | none => answer .wrongState .nothing s
    | some session =>
      if !s.committed.pollList.contains n then answer .notFound .nothing s
      else if !s.idle then answer .busy .nothing s
      else if Config.pointCapacity ≤ session.points.length then answer .listFull .nothing s
      else
        holdQueue (askMode n .reference
          (setSession (some { session with check := some { cell := n, samples := 0, sum := 0, handoffs := 0 } }) s))

/-- The reference counts of the checked node join the check, up to eight (R183). -/
def ReferenceCheck.take (check : ReferenceCheck) : List (Nat × Int) → ReferenceCheck
  | [] => check
  | (node, count) :: rest =>
    if node = check.cell ∧ check.samples < 8 then
      ReferenceCheck.take { check with samples := check.samples + 1, sum := check.sum + count } rest
    else ReferenceCheck.take check rest

/-- The moment at which a check is judged (R183). -/
def ReferenceCheck.ended (check : ReferenceCheck) : Bool := decide (8 ≤ check.samples) || decide (32 ≤ check.handoffs)

/-- The reference point of a judged check (R184). -/
def referencePoint (c : CalSet) (check : ReferenceCheck) (index : Nat) : Point :=
  let cal := c.cell check.cell
  if 8 ≤ check.samples then
    let mean := roundDiv check.sum 8
    let difference := mean - cal.refCount
    { index := index, pass := decide (difference.natAbs ≤ cal.refTolerance)
      body := .reference
        { cell := check.cell, samples := check.samples, mean := some mean, refCount := cal.refCount,
          tolerance := cal.refTolerance, difference := some difference, noReference := false } }
  else
    { index := index, pass := false
      body := .reference
        { cell := check.cell, samples := check.samples, mean := none, refCount := cal.refCount,
          tolerance := cal.refTolerance, difference := none, noReference := true } }

/-- Answers the directive that holds the queue (R195). -/
def answerHeld (status : Status) (result : Result) (s : State) : State :=
  if s.tli.executing then answer status result s else s

/-- The check is judged (R184). -/
def judgeCheck (session : Session) (check : ReferenceCheck) (s : State) : State :=
  let point := referencePoint s.committed check (session.points.length + 1)
  answerHeld .done (.point point)
    (setSession (some { session with points := session.points ++ [point], check := none }) (askMode check.cell .normal s))

/-- The VFU takes a scan completion (R183). -/
def referenceCounts (counts : List (Nat × Int)) (s : State) : State :=
  match s.vfu.session with
  | some session =>
    match session.check with
    | some check =>
      let check := { check.take counts with handoffs := check.handoffs + 1 }
      if check.ended then judgeCheck session check s else setSession (some { session with check := some check }) s
    | none => s
  | none => s

/-- The next scan completion with these counts would judge the check. -/
def State.checkEnds (s : State) (counts : List (Nat × Int)) : Bool :=
  match s.vfu.session.bind (·.check) with
  | some check => ReferenceCheck.ended { check.take counts with handoffs := check.handoffs + 1 }
  | none => false

/-! ## Closing -/

/-- A zero point (R181, R186). -/
def Point.isZero (p : Point) : Bool :=
  match p.body with
  | .load l => l.declared == 0
  | .reference _ => false

/-- A load point above zero (R186). -/
def Point.isLoad (p : Point) : Bool :=
  match p.body with
  | .load l => l.declared != 0
  | .reference _ => false

/-- The fail causes of a point list (R186). -/
def failCauses (points : List Point) : List FailCause :=
  (if points.any (·.isZero) then [] else [.noZeroPoint]) ++
  (if 2 ≤ (points.filter (·.isLoad)).length then [] else [.tooFewLoads]) ++
  (if points.all (·.pass) then [] else [.pointFailed])

/-- The error of the load point whose error has the greatest magnitude, the earliest when several share it
(R186). -/
def worstError (points : List Point) : Option Int :=
  points.foldl (fun worst p =>
    match p.body with
    | .load l =>
      match worst with
      | none => some l.error
      | some w => if w.natAbs < l.error.natAbs then some l.error else some w
    | .reference _ => worst) none

/-- The audit summary of a session (R186). -/
def auditSummary (session : Session) : AuditSummary where
  pass := (failCauses session.points).isEmpty
  causes := failCauses session.points
  pointCount := session.points.length
  passCount := (session.points.filter (·.pass)).length
  failCount := (session.points.filter (!·.pass)).length
  worstError := worstError session.points
  opening := session.opening

/-- The certificate (R139, R151, R187). -/
def certificate (session : Session) (s : State) : Ticket where
  number := s.stc.store.ticket.next
  time := s.cck.time
  calCount := s.stc.store.calibration.count
  body := .audit (auditSummary session)

/-- CLOSE_AUDIT (R185, R187). -/
def closeAudit (s : State) : State :=
  match s.vfu.session with
  | none => answer .wrongState .nothing s
  | some session =>
    if s.stc.fault then answer .storeFault .nothing s
    else if !s.cck.isSet then answer .clockUnset .nothing s
    else if s.fillSlotPosted then answer .ringBlocked .nothing s
    else
      holdQueue (handUpdate
        (.certificate (certificate session s) (auditSummary session).pass s.stc.store.calibration.newest) s)

end Sys2Proof.Machine
end

