-- ==== Sys2Proof/Machine/CellLine.lean ====
section
/-! DEFINITION. The Cell Line Controller (01): poll frames and replies, the checks, scans, node records, line
break, the return of nodes to NORMAL at HALT, and the line test. -/

namespace Sys2Proof.Machine

/-! ## Frames on the cell line (R2, R206) -/

/-- The check byte of a cell-line frame: the complement of the 8-bit sum of the bytes before it (R2). -/
def checkByte (bytes : List Byte) : Byte := ~~~(bytes.foldl (· + ·) 0)

/-- The address byte of a node (R2). -/
def addressByte (node : Nat) : Byte := 0x80 + BitVec.ofNat 8 node

/-- The byte of a poll command (R206). -/
def PollCommand.byte : PollCommand → Byte
  | .sample => 0x01
  | .reference => 0x02
  | .normal => 0x03

/-- The poll frame on CL_TX (R2, R206). -/
def pollFrame (node : Nat) (command : PollCommand) : List Byte :=
  [addressByte node, command.byte, checkByte [addressByte node, command.byte]]

/-- A sample frame's status byte and count (R2, R206). -/
structure SampleReply where
  sequence : Nat
  excitationLow : Bool
  overRange : Bool
  reference : Bool
  count : BitVec 24
deriving DecidableEq, Repr

/-- The fields of a status byte and three count bytes (R206). -/
def sampleReply (status c2 c1 c0 : Byte) : SampleReply where
  sequence := (status.extractLsb' 4 4).toNat
  excitationLow := status.getLsbD 2
  overRange := status.getLsbD 1
  reference := status.getLsbD 0
  count := c2 ++ c1 ++ c0

/-! ## The checks of a reply (R7) -/

/-- What the checks make of a reply window. -/
inductive Judgement
  | valid (reply : SampleReply)
  | error (kind : CellError)
deriving DecidableEq, Repr

/-- The eight checks of R7 in their order. -/
def judgeReply (node : Nat) (last : Option Nat) (received : List CellChar) : Judgement :=
  if received.isEmpty then .error .timeout
  else if !received.all (·.parityOk) then .error .parity
  else if !received.all (·.stopOk) then .error .framing
  else
    match received.map (·.data) with
    | [address, status, c2, c1, c0, check] =>
      let reply := sampleReply status c2 c1 c0
      if check != checkByte [address, status, c2, c1, c0] then .error .check
      else if address != addressByte node then .error .address
      else if last == some reply.sequence then .error .stale
      else if reply.excitationLow then .error .excitation
      else .valid reply
    | _ => .error .length

/-- The reply window holds six characters of 11 bits at 230,400 bit/s, each bit 1,000,000/230,400 µs (R1). -/
def Site.holdsReply (x : Site) : Bool := 6 * 11 * 1000000 ≤ x.replyWindow * 230400

/-- What the checks make of a reply under the window in force (R1, R7): in a window shorter than six characters,
every reply that arrives fails LENGTH, after the three checks that stand before it. -/
def judgeReplyIn (x : Site) (node : Nat) (last : Option Nat) (received : List CellChar) : Judgement :=
  if x.holdsReply || received.isEmpty || !received.all (·.parityOk) || !received.all (·.stopOk) then
    judgeReply node last received
  else .error .length

/-- The error kinds after which the same node is polled once more (R6, R7). -/
def CellError.retriable : CellError → Bool
  | .timeout | .parity | .framing | .length | .check | .address => true
  | .stale | .excitation => false

/-! ## Node records -/

/-- An errored attempt in the node's record (R9). -/
def NodeRecord.errored (kind : CellError) (r : NodeRecord) : NodeRecord :=
  { r with errorCount := saturatingSucc Config.max16 r.errorCount, lastError := some kind }

/-- The reference flag of a reply agrees with the commanded mode (R8). -/
def NodeMode.agrees : NodeMode → Bool → Bool
  | .reference, flag => flag
  | .normal, flag => !flag

/-- The command that carries a mode (R14). -/
def NodeMode.command : NodeMode → PollCommand
  | .reference => .reference
  | .normal => .normal

/-- A valid reply in the node's record (R8, R14, R15): a mismatch marks the command undelivered; a match on an attempt
that carried the command marks it delivered. -/
def NodeRecord.replied (carried : PollCommand) (reply : SampleReply) (r : NodeRecord) : NodeRecord :=
  { r with
    lastSequence := some reply.sequence
    delivered :=
      if r.mode.agrees reply.reference then r.delivered || carried == r.mode.command else false }

/-- The sample slot after a valid reply (R8). -/
def replySlot (mode : NodeMode) (reply : SampleReply) : Slot :=
  match mode, reply.reference with
  | .normal, false => .sample reply.count.toInt reply.overRange
  | _, _ => .withheld

/-- The move of a node record at scan completion (R11), with NODE_LOST or NODE_RECOVERED. -/
def NodeRecord.settled (node lostLimit : Nat) (answered : Bool) (r : NodeRecord) : NodeRecord × Option Event :=
  if answered then
    ({ r with state := .live, missed := 0 }, if r.state == .lost then some (.nodeRecovered node) else none)
  else
    match r.state with
    | .live => ({ r with state := .suspect, missed := 1 }, none)
    | .lost | .unassigned => (r, none)
    | .searching | .suspect =>
      if lostLimit ≤ r.missed + 1 then
        ({ r with state := .lost, missed := r.missed + 1 }, some (.nodeLost node))
      else ({ r with missed := r.missed + 1 }, none)

/-- A slot that stands for a valid reply (R11). -/
def Slot.answered : Slot → Bool
  | .sample _ _ | .withheld => true
  | _ => false

/-- Brings the records of the polled nodes up to date in ascending order, with their events (R10, R11). -/
def updateNodes : List (Nat × Slot) → State → State
  | [], s => s
  | (n, slot) :: rest, s =>
    let (r, e) := (s.clc.node n).settled n s.rnc.site.lostLimit slot.answered
    let s' := { s with clc := s.clc.setNode n r }
    updateNodes rest (match e with
      | some e => raise e s'
      | none => s')

/-- A completion raises a node event. -/
def State.nodeEvents (s : State) (slots : List (Nat × Slot)) : Bool :=
  slots.any fun (n, slot) => ((s.clc.node n).settled n s.rnc.site.lostLimit slot.answered).2.isSome

/-- The node records follow a new poll list (R3). -/
def NodeRecord.follow (listed : Bool) (r : NodeRecord) : NodeRecord :=
  if listed then
    if r.state == .unassigned then { r with state := .searching, missed := 0, lastSequence := none } else r
  else if r.state == .unassigned then r
  else { r with state := .unassigned, missed := 0, lastSequence := none }

/-! ## Scans -/

/-- Replaces the Cell Line Controller. -/
def setClc (c : Clc) (s : State) : State := { s with clc := c }

/-- Polls a node (R6, R14): the reply window opens, and an undelivered command is carried. -/
def pollNode (node number : Nat) (s : State) : State :=
  let r := s.clc.node node
  let command := if r.delivered then PollCommand.sample else r.mode.command
  setClc { s.clc with attempt := some { node := node, number := number, command := command } } s

/-- Settles the slot of a node in a scan. -/
def Scan.settle (node : Nat) (slot : Slot) (sc : Scan) : Scan :=
  { sc with slots := sc.slots.map fun (n, old) => if n = node then (n, slot) else (n, old) }

/-- The mirror entry of a node settled NOT_POLLED (R19). -/
def notPolledEntry (node : Nat) : MirrorEntry :=
  { node := node, attempt := none, outcome := .notPolled, status := none, count := none }

/-- Settles every node still to be settled NOT_POLLED (R12, R13). -/
def Scan.leaveRest (sc : Scan) : Scan :=
  { sc with
    todo := []
    slots := sc.slots.map fun (n, old) => if sc.todo.contains n then (n, .notPolled) else (n, old)
    entries := sc.entries ++ sc.todo.map notPolledEntry }

/-- The mirror entry of an attempt (R19): status and count when six characters were received. -/
def attemptEntry (a : Attempt) (outcome : AttemptOutcome) (received : List CellChar) : MirrorEntry :=
  match received.map (·.data) with
  | [_, status, c2, c1, c0, _] =>
    { node := a.node, attempt := some a.number, outcome := outcome, status := some status, count := some (c2 ++ c1 ++ c0) }
  | _ => { node := a.node, attempt := some a.number, outcome := outcome, status := none, count := none }

/-- The SAMPLE frame of a completed scan (R19). -/
def sampleFrame (sc : Scan) (s : State) : SampleFrame := { scan := sc.number, line := s.clc.line, entries := sc.entries }

/-- Offers the SAMPLE frame of a completed scan (R19). -/
def offerMirror (sc : Scan) (s : State) : State := { s with tli := s.tli.offerSample (sampleFrame sc s) }

/-- The deliveries of a completed scan (R10). No order among them is specified (log 8). -/
def scanDeliveries (sc : Scan) (s : State) : List (State → State) :=
  [updateNodes sc.slots, workHandoff sc.number sc.slots, referenceCounts sc.references] ++
    (if s.tli.mirror then [offerMirror sc] else [])

/-- The order of a completed scan's deliveries can show (log 8). -/
def scanOrderShows (sc : Scan) (s : State) : Bool :=
  s.nodeEvents sc.slots || s.checkEnds sc.references || (s.tli.mirror && s.tli.sending.isNone)

/-- A scan completes (R10). -/
def finishScan (sc : Scan) (s : State) : State :=
  let s := setClc { s.clc with scan := none, attempt := none } s
  inAnyOrder (scanOrderShows sc s) (scanDeliveries sc s) s

/-- A scan begins (R5, R3): its number, its poll list, the node records, the slots, and the first poll. In BREAK, or
with an empty list, it completes at once (R3, R13). -/
def beginScan (s : State) : State :=
  let list := s.setInUse.pollList
  let number := s.clc.scanNumber + 1
  let sc : Scan :=
    { number := number, todo := list, slots := list.map (·, .awaiting), entries := [], references := [] }
  let s := setClc { s.clc with
    scanNumber := number
    scanPending := false
    nodes := s.clc.nodes.mapIdx fun i r => r.follow (list.contains (i + 1)) } s
  if s.clc.line == .broken then finishScan sc.leaveRest s
  else
    match list with
    | [] => finishScan sc s
    | n :: _ => pollNode n 1 (setClc { s.clc with scan := some sc } s)

/-- A scan completes, and a pending one begins at once (R5). -/
def completeScan (sc : Scan) (s : State) : State :=
  let s := finishScan sc s
  if s.clc.scanPending then beginScan s else s

/-- The first node still to be settled is settled, and the next is polled or the scan completes (R6). -/
def settleNext (sc : Scan) (s : State) : State :=
  let sc' := { sc with todo := sc.todo.tail }
  match sc'.todo with
  | [] => completeScan sc' s
  | n :: _ => pollNode n 1 (setClc { s.clc with scan := some sc' } s)

/-- SCAN_TIMER_EXPIRY (R5): begins a scan, or marks one pending with SCAN_OVERRUN. -/
def timerExpired (s : State) : State :=
  match s.clc.scan with
  | none => beginScan s
  | some sc =>
    if s.clc.scanPending then s
    else
      raise (.scanOverrun sc.number)
        { s with clc := { s.clc with scanPending := true }, tli := { s.tli with scanOverrun := true } }

/-! ## The return of nodes to NORMAL at HALT (R16) -/

/-- The nodes HALT returns to NORMAL: commanded REFERENCE, or with an undelivered command. -/
def Clc.strayNodes (c : Clc) : List Nat :=
  ((List.range 16).map (· + 1)).filter fun n => (c.node n).inReference

/-- A node after HALT's command (R16). -/
def NodeRecord.toNormal (r : NodeRecord) : NodeRecord :=
  if r.inReference then { r with mode := .normal, delivered := false } else r

/-- Polls the next of HALT's nodes, or has none left; in BREAK no poll is sent (R16). -/
def pollStrays (s : State) : State :=
  match s.clc.haltTodo with
  | [] => setClc { s.clc with attempt := none } s
  | n :: rest =>
    if s.clc.line == .broken then setClc { s.clc with attempt := none, haltTodo := [] } s
    else pollNode n 1 (setClc { s.clc with haltTodo := rest } s)

/-! ## The end of a reply window (R6 to R9) -/

/-- The attempt is judged: the node's record takes the reply or the error (R8, R9). -/
def recordReply (a : Attempt) (j : Judgement) (s : State) : State :=
  let r := s.clc.node a.node
  setClc (s.clc.setNode a.node (match j with
    | .valid reply => r.replied a.command reply
    | .error kind => r.errored kind)) s

/-- The outcome of a judgement for the mirror (R19). -/
def Judgement.outcome : Judgement → AttemptOutcome
  | .valid _ => .valid
  | .error kind => .error kind

/-- A scan's part after an attempt: its mirror entry, and the reference count of a reply in reference mode (R8,
R19). -/
def Scan.note (mode : NodeMode) (a : Attempt) (j : Judgement) (received : List CellChar) (sc : Scan) : Scan :=
  { sc with
    entries := sc.entries ++ [attemptEntry a j.outcome received]
    references := match j with
      | .valid reply => if mode == .reference && reply.reference then sc.references ++ [(a.node, reply.count.toInt)] else sc.references
      | .error _ => sc.references }

/-- An error after which the same node is polled once more (R6). -/
def Judgement.retries (j : Judgement) (number : Nat) : Bool :=
  match j with
  | .valid _ => false
  | .error kind => kind.retriable && number == 1

/-- The slot an attempt leaves (R6, R8). -/
def Judgement.slot (mode : NodeMode) : Judgement → Slot
  | .valid reply => replySlot mode reply
  | .error kind => .missing kind

/-- REPLY_WINDOW_END (R1, R6, R7, R16). -/
def windowEnded (received : List CellChar) (s : State) : State :=
  match s.clc.attempt with
  | none => s
  | some a =>
    let r := s.clc.node a.node
    let j := judgeReplyIn s.rnc.site a.node r.lastSequence received
    let s' := recordReply a j s
    match s.clc.scan with
    | some sc =>
      let sc' := sc.note r.mode a j received
      if j.retries a.number then pollNode a.node 2 (setClc { s'.clc with scan := some sc' } s')
      else settleNext (sc'.settle a.node (j.slot r.mode)) s'
    | none => if j.retries a.number then pollNode a.node 2 s' else pollStrays s'

/-! ## Line break (R12, R13) -/

/-- The error of an attempt that a break ends (R12). -/
def breakError (received : List CellChar) : CellError := if received.isEmpty then .timeout else .framing

/-- The attempt in progress ends at a break (R12, R16). -/
def breakAttempt (received : List CellChar) (s : State) : State :=
  match s.clc.attempt with
  | none => s
  | some a =>
    let j := Judgement.error (breakError received)
    let s' := recordReply a j s
    match s.clc.scan with
    | some sc =>
      let sc' := (sc.note .normal a j received).settle a.node (.missing (breakError received))
      completeScan { sc' with todo := sc'.todo.tail }.leaveRest s'
    | none => setClc { s'.clc with attempt := none, haltTodo := [] } s'

/-- LINE_BREAK (R12). -/
def lineBroken (received : List CellChar) (s : State) : State :=
  breakAttempt received (raise .lineBreak { s with clc := { s.clc with line := .broken } })

/-- LINE_RESTORED (R13). -/
def lineMended (s : State) : State := raise .lineRestored { s with clc := { s.clc with line := .normal } }

/-! ## Line test (R17) -/

/-- The data of test character i (R17). -/
def testChar (i : Nat) : Byte :=
  let walking : Byte := 1#8 <<< (i % 8)
  if i < 24 then walking else ~~~walking

/-- Test character i came back as it was sent (R17). -/
def testMatches (i : Nat) : Option CellChar → Bool
  | some c => c.data == testChar i && c.parityOk && c.stopOk
  | none => false

/-- The mismatch count of the characters received back (R17). -/
def testMismatches (back : List (Option CellChar)) : Nat :=
  ((List.range 48).filter fun i => !testMatches i (back.getD i none)).length

end Sys2Proof.Machine
end

