-- ==== Sys2Proof/Machine/Yard.lean ====
section
/-! DEFINITION. The Yard Line Unit (03): the input filters, settling, and the handing on of accepted changes. -/

namespace Sys2Proof.Machine

/-- The filter time of an input in microseconds (03 "Input filters"). -/
def Site.filterTime (site : Site) : YardInput → Nat
  | .entryLoop | .exitLoop => site.loopFilter * 1000
  | .stripA | .stripB => site.stripFilter * 100
  | .calSwitch => 50000

/-- A raw transition at a moment (R52, R53, R55): it restarts a settling interval, opens a candidate, or abandons one as
chatter. A transition to the level the raw input already has cannot occur and changes nothing. -/
def InputFilter.transition (level : Bool) (now : Stamp) (f : InputFilter) : InputFilter :=
  if f.raw = level then f
  else
    match f.accepted with
    | none => { f with raw := level, settling := some ⟨level, now⟩ }
    | some accepted =>
      if level = accepted then
        match f.candidate with
        | some _ => { f with raw := level, candidate := none, chatter := saturatingSucc Config.max16 f.chatter }
        | none => { f with raw := level }
      else { f with raw := level, candidate := some ⟨level, now⟩ }

/-- The candidate is accepted (R52). -/
def InputFilter.accept (c : LevelMark) (f : InputFilter) : InputFilter :=
  { f with accepted := some c.level, last := some c, candidate := none }

/-- The settling interval ends: the first level is taken without a change (R55). -/
def InputFilter.settled (level : Bool) (f : InputFilter) : InputFilter :=
  { f with accepted := some level, settling := none }

/-- The candidate of an input that has held for the filter time (R52, R54). -/
def State.ripe (s : State) (input : YardInput) : Option LevelMark :=
  match (s.ylu.filter input).candidate with
  | some c => if s.rnc.site.filterTime input ≤ elapsed c.stamp s.ylu.timebase then some c else none
  | none => none

/-- Hands an accepted change to its consumer (R56); a strip press reaches the AXM only while it checks (R65). -/
def handOn (input : YardInput) (green : Bool) (c : LevelMark) (s : State) : State :=
  match input with
  | .entryLoop => entryChange c.level green c.stamp s
  | .exitLoop => exitChange c.level c.stamp s
  | .stripA => if c.level && s.axm.checking then stripAPress c.stamp s else s
  | .stripB => if c.level && s.axm.checking then stripBPress c.stamp s else s
  | .calSwitch => if c.level then s else switchOpened s

/-- The inputs whose changes are reported (R58). -/
def lineReported : YardInput → Bool
  | .entryLoop | .exitLoop | .calSwitch => true
  | .stripA | .stripB => false

/-- LINE_CHANGE (R58). -/
def reportChange (input : YardInput) (c : LevelMark) (s : State) : State :=
  if lineReported input then raise (.lineChange input c.level c.stamp) s else s

/-- An accepted change: the filter, the consumer with the light as it stands, then the report (R52, R56 to R58,
log 9). -/
def acceptChange (input : YardInput) (c : LevelMark) (s : State) : State :=
  let green := s.ylu.entryGreen
  let s' := { s with ylu := s.ylu.setFilter ((s.ylu.filter input).accept c) input }
  reportChange input c (handOn input green c s')

/-- FILTER_ACCEPT (R52): the candidate of an input is accepted when it is ripe. -/
def acceptRipe (input : YardInput) (s : State) : State :=
  match s.ripe input with
  | some c => acceptChange input c s
  | none => s

/-- SETTLING_COMPLETE (R55). -/
def settleInput (input : YardInput) (s : State) : State :=
  let f := s.ylu.filter input
  match f.settling with
  | some m =>
    if s.rnc.site.filterTime input ≤ elapsed m.stamp s.ylu.timebase then
      { s with ylu := s.ylu.setFilter (f.settled m.level) input }
    else s
  | none => s

/-- The inputs whose filter time is a site setting (R54). -/
def siteInputs : List YardInput := [.entryLoop, .exitLoop, .stripA, .stripB]

/-- Candidates that a new filter time has already ripened are accepted at once (R54, log 24). A settling interval that the new
time has already passed ends at its SETTLING_COMPLETE, not here: R54 speaks of candidates alone (DESIGN CHOICE, log 42). -/
def acceptAllRipe (s : State) : State := siteInputs.foldl (fun s input => acceptRipe input s) s

/-- RAW_TRANSITION (R51 to R53, R55). -/
def rawChange (input : YardInput) (level : Bool) (s : State) : State :=
  { s with ylu := s.ylu.setFilter ((s.ylu.filter input).transition level s.ylu.timebase) input }

/-- The filter after RESTART (R55, R64): it settles with the raw level and the moment. -/
def InputFilter.restart (now : Stamp) (f : InputFilter) : InputFilter := .settle f.raw now

/-- The Yard Line Unit after RESTART (R64). -/
def Ylu.restart (y : Ylu) : Ylu :=
  { y with
    entryLoop := y.entryLoop.restart y.timebase
    exitLoop := y.exitLoop.restart y.timebase
    stripA := y.stripA.restart y.timebase
    stripB := y.stripB.restart y.timebase
    calSwitch := y.calSwitch.restart y.timebase
    entryGreen := false
    exitGreen := false
    exitBarrier := false }

/-! ## Timers of the passage and the pairing -/

/-- CAPTURE_TIMEOUT (R116): the timer has run for the capture timeout in ON_BRIDGE. -/
def captureTimer (s : State) : State :=
  match s.psu.passage, s.psu.captureTimer with
  | some p, some since =>
    if p.state == .onBridge && s.rnc.site.captureTimeout * 1000000 ≤ elapsed since s.ylu.timebase then captureTimedOut p s
    else s
  | _, _ => s

/-- PAIRING_EXPIRY (R70): the window, the strip filter time and one microsecond have passed. -/
def pairingTimer (s : State) : State :=
  match s.axm.pairing with
  | some p =>
    if s.axm.checking && s.windowMicros + s.rnc.site.stripFilter * 100 + 1 ≤ elapsed p.stamp s.ylu.timebase then
      expirePairing p s
    else s
  | none => s

end Sys2Proof.Machine
end

