-- ==== Sys2Proof/Machine/Store.lean ====
section
/-! DEFINITION. The Store Controller (11) and its producers: what follows the completion or the failure of a store
update (R213, R214, R124, R132, R143, R144, R149, R151, R164, R165, R188, R189, R175). -/

namespace Sys2Proof.Machine

/-! ## Completion -/

/-- The TKU tells the PSU that the issue has completed (R124, R109): `passage` is the passage whose update it was, absent
after RESTART (log 17). -/
def issueCompleted (passage : Option (BitVec 16)) (number : BitVec 32) (s : State) : State :=
  match s.psu.passage with
  | some p =>
    if p.state == .issuing && passage == some p.number then
      let p' := { p with state := .done, ticket := some number }
      let s' := report (some .issuing) (some .done) .posted none p' (setPassage p' s)
      if p.runThrough then toLeaving .runThrough none p' s' else s'
    else s
  | none => s

/-- A ticket's update has completed (R143): the NEW frame, the PSU, and the end of TABLE_FULL, with no order among
them (log 8). -/
def ticketDone (t : Ticket) (slot : Nat) (passage : Option (BitVec 16)) (roomMade : Bool) (s : State) : State :=
  inAnyOrder s.psu.passage.isSome
    ([offer (.ticket false slot t), issueCompleted passage t.number] ++ (if roomMade then [waitEnded .tableFull] else []))
    s

/-- A certificate's update has completed (R151, R188): `before` is the status before it. -/
def auditClosed (pass : Bool) (before : Bool) (s : State) : State :=
  let s := if pass then rebaseZeros { s with vfu := { s.vfu with zeroLimitPending := false } } else s
  statusChange (if pass then .auditPass else .auditFail) before (setSession none s)

/-- The summary of a certificate's record. -/
def Ticket.summary (t : Ticket) : Option AuditSummary :=
  match t.body with
  | .audit a => some a
  | .weighing _ => none

/-- The reply of CLOSE_AUDIT (R188). -/
def replyCertificate (t : Ticket) (slot mark : Nat) (s : State) : State :=
  match t.summary with
  | some summary => answerHeld .done (.certificate t.number slot summary mark) s
  | none => s

/-- A certificate's update has completed: the TICKET frame, the VFU and the reply, with no order among them (R151,
R188, log 8). -/
def certificateDone (t : Ticket) (slot : Nat) (pass : Bool) (mark : Nat) (before : Bool) (s : State) : State :=
  inAnyOrder true [offer (.ticket false slot t), auditClosed pass before, replyCertificate t slot mark] s

/-- The reply of COMMIT_CAL (R164). -/
def replyCommit (k : Nat) (s : State) : State :=
  let area := s.stc.store.calibration
  answerHeld .done (.committed area.count k (area.newest + 1 - k) area.newest s.unaudited) s

/-- A commit's update has completed (R164): calibration mode ends, and the WGE and the AXM take the committed set in the
place of `old` with a zero reload; `before` is the status before it. -/
def commitDone (k : Nat) (before : Bool) (old : CalSet) (s : State) : State :=
  inAnyOrder true [statusChange .commit before, replyCommit k]
    (setChanged old true { s with clu := { staged := none, openingRecorded := false } })

/-- A release's update has completed (R149): the reply, then the end of RING_BLOCKED. -/
def releaseDone (slot fill : Nat) (s : State) : State :=
  let s := answerHeld .done (.released slot s.postedCount) s
  if slot = fill then waitEnded .ringBlocked s else s

/-- A purge's update has completed (R132): the reply, then the end of TABLE_FULL. A purge whose entry an update before it has
removed, as after RESTART, is answered DONE without an entry (DESIGN CHOICE, log 44). -/
def purgeDone (entry : Option OpenEntry) (roomMade : Bool) (s : State) : State :=
  let s := answerHeld .done (.transaction entry s.stc.store.transaction.table.length s.counters) s
  if roomMade then waitEnded .tableFull s else s

/-- The completion that sets the next number to 0 sets the flag (R140, R215); `before` is the status before it. -/
def spendNumbers (before : Bool) (s : State) : State :=
  if s.stc.store.ticket.next = 0 && !s.stc.fault then
    statusChange .storeFault before (raise (.storeFault .numbersSpent) { s with stc := { s.stc with fault := true } })
  else s

/-- The change took the table from 64 entries to 63 (R136). -/
def roomMade (before after : Store) : Bool :=
  before.transaction.table.length == Config.transactionCapacity &&
    after.transaction.table.length + 1 == Config.transactionCapacity

/-- STORE_UPDATE_COMPLETE (R213): the oldest update takes effect and its producer is told. -/
def updateComplete (s : State) : State :=
  match s.stc.queue with
  | [] => s
  | u :: rest =>
    let old := s.stc.store
    let before := s.verified
    let inUse := s.setInUse
    let s := { s with stc := { s.stc with store := u.apply old, queue := rest } }
    let made := roomMade old s.stc.store
    match u with
    | .ticket t _ passage => ticketDone t old.ticket.fill passage made (spendNumbers before s)
    | .certificate t pass mark =>
      let s := spendNumbers before s
      certificateDone t old.ticket.fill pass mark (if s.stc.fault then s.verified else before) s
    | .release number =>
      match old.ticket.slotOf number with
      | some slot => releaseDone slot old.ticket.fill s
      | none => s
    | .purge tag => purgeDone (findOpen tag old.transaction.table) made s
    | .commit _ entries => commitDone entries.length before inUse s
    | .reason => { s with vfu := { s.vfu with zeroLimitPending := false } }

/-! ## Failure -/

/-- The TKU tells the PSU that the issue has failed (R144, R124, R109). -/
def issueFailed (passage : Option (BitVec 16)) (s : State) : State :=
  match s.psu.passage with
  | some p =>
    if p.state == .issuing && passage == some p.number then
      if p.runThrough then toLeaving .runThrough none p s
      else
        let p' := { p with state := .captured, holds := addHold .storeFault p.holds }
        report (some .issuing) (some .captured) .issueFailed none p' (setPassage p' s)
    else s
  | none => s

/-- A commit's update has failed (R165): the mode ends when the switch is no longer accepted closed; the reply is
STORE_FAULT. -/
def commitFailed (s : State) : State :=
  let s := if s.switchClosed then { s with clu := { s.clu with openingRecorded := false } } else calSwitchOpened s
  answerHeld .storeFault .nothing s

/-- A producer is told of the failure of its update (R144, R132, R149, R165, R175, R189). -/
def updateFailed (u : Update) (s : State) : State :=
  match u with
  | .ticket _ _ passage => issueFailed passage s
  | .certificate .. | .release _ | .purge _ => answerHeld .storeFault .nothing s
  | .commit .. => commitFailed s
  | .reason => s

/-- The store fault flag is set by a failed write (R214, R174): STORE_FAULT, then TRADE_STATUS_CHANGED, then what the
producers are told (DESIGN CHOICE, log 31). A flag that stands already is set again, with STORE_FAULT raised again (DESIGN
CHOICE, log 50). -/
def setStoreFault (producer : Producer) (s : State) : State :=
  statusChange .storeFault s.verified
    (raise (.storeFault (.writeFailed producer)) { s with stc := { s.stc with fault := true } })

/-- STORE_UPDATE_FAILED (R214): the flag is set, and the update and every one waiting end as failed in turn. -/
def updatesFail (s : State) : State :=
  match s.stc.queue with
  | [] => s
  | u :: rest =>
    (u :: rest).foldl (fun s u => updateFailed u s)
      (setStoreFault u.producer { s with stc := { s.stc with queue := [] } })

/-- With the last update of a HALTING ended, HALT's polls begin (R16, R208). -/
def haltGoesOn (s : State) : State :=
  if s.rnc.runState == .halting && s.stc.queue.isEmpty && s.clc.attempt.isNone then pollStrays s else s

end Sys2Proof.Machine
end

