-- ==== Sys2Proof/Machine/TableDirectives.lean ====
section
/-! DEFINITION. The directives of the Vehicle Table Block (05), of the Passage Unit (06) and of the Ticket Unit
(07). -/

namespace Sys2Proof.Machine

/-! ## Vehicle Table Block -/

/-- Replaces the vehicle table. -/
def setVehicles (vs : List Vehicle) (s : State) : State := { s with vtb := { s.vtb with vehicles := vs } }

/-- The class number of a field, 1 to 16 (R89, R97). -/
def classOf (b : Byte) : Option Nat := nodeOf b

/-- A PUT_VEHICLE whose fields lie in their ranges (R90 rows 4 to 7, R91). -/
def putEntry (v : Vehicle) (s : State) : State :=
  if v.tare.isSome && s.calibrationDamaged then answer .noCalibration .nothing s
  else if (match v.tare with
    | some t => !s.tareFits t
    | none => false) then answer .badValue .nothing s
  else
    match findVehicle v.tag s.vtb.vehicles with
    | some _ =>
      let s' := setVehicles (insertVehicle v s.vtb.vehicles) s
      answer .done (.vehiclePut true s'.vtb.vehicles.length) s'
    | none =>
      if Config.vehicleCapacity ≤ s.vtb.vehicles.length then answer .tableFull (.count s.vtb.vehicles.length) s
      else
        let s' := setVehicles (insertVehicle v s.vtb.vehicles) s
        answer .done (.vehiclePut false s'.vtb.vehicles.length) s'

/-- PUT_VEHICLE (R90). A byte outside its values is judged with rows 1 to 3, ahead of the rows that read the store and the
table (DESIGN CHOICE, logs 15, 46). -/
def putVehicle (tag : Tag) (cls tarePresent : Byte) (tare : BitVec 32) (allowed blocked : Byte) (s : State) : State :=
  match classOf cls, presence tarePresent, firstOrSecond allowed, firstOrSecond blocked with
  | some c, some present, some a, some b =>
    if tag = 0 then answer .badValue .nothing s
    else if present && !(1 ≤ tare.toNat && tare.toNat ≤ 200000) then answer .badValue .nothing s
    else
      putEntry
        { tag := tag, cls := c, tare := if present then some tare.toNat else none, presetAllowed := a, blocked := b } s
  | _, _, _, _ => answer .badValue .nothing s

/-- DROP_VEHICLE (R92). -/
def dropVehicle (tag : Tag) (s : State) : State :=
  if tag = 0 then answer .badValue .nothing s
  else
    match findVehicle tag s.vtb.vehicles with
    | none => answer .notFound .nothing s
    | some _ =>
      let s' := setVehicles (removeVehicle tag s.vtb.vehicles) s
      answer .done (.count s'.vtb.vehicles.length) s'

/-- CLEAR_VEHICLES (R93). -/
def clearVehicles (s : State) : State := answer .done (.count s.vtb.vehicles.length) (setVehicles [] s)

/-- READ_VEHICLE (R94). The tare check is absent when it is not made, in a damaged calibration area, and when the entry has
no preset tare: R94 gives no form for "not made" (DESIGN CHOICE, log 35). -/
def readVehicle (tag : Tag) (s : State) : State :=
  if tag = 0 then answer .badValue .nothing s
  else
    let index := holdIndex tag s.vtb.salt
    let entries := s.vtb.vehicles.length
    match findVehicle tag s.vtb.vehicles with
    | some v =>
      let fits := if s.calibrationDamaged then none else v.tare.map s.tareFits
      answer .done (.vehicle (some v) fits index (s.maskBit tag) entries) s
    | none => answer .notFound (.vehicle none none index (s.maskBit tag) entries) s

/-- PUT_CLASS (R98). -/
def putClass (number filled : Byte) (fields : ClassFields) (s : State) : State :=
  match classOf number, presence filled with
  | some n, some isFilled =>
    let was := (s.vtb.classes.getD (n - 1) none).isSome
    let put (e : Option ClassEntry) : State :=
      answer .done (.classWas was) { s with vtb := { s.vtb with classes := s.vtb.classes.set (n - 1) e } }
    if isFilled then
      match ClassFields.entry fields with
      | some e => put (some e)
      | none => answer .badValue .nothing s
    else put none
  | _, _ => answer .badValue .nothing s

/-- READ_CLASS (R98). -/
def readClass (number : Byte) (s : State) : State :=
  match classOf number with
  | some n => answer .done (.classEntry (s.vtb.classes.getD (n - 1) none)) s
  | none => answer .badValue .nothing s

/-- PUT_HOLD_MASK (R100). -/
def putHoldMask (mask : BitVec 64) (salt : Byte) (s : State) : State :=
  if 63 < salt.toNat then answer .badValue .nothing s
  else
    answer .done (.count (countBits mask 64)) { s with vtb := { s.vtb with mask := mask, salt := salt.setWidth 6 } }

/-! ## Passage Unit -/

/-- A binding (R117, R118): the reply, then the request's judgement and the report (log 10). The reply's hold set holds what
the binding and the verdict add, and not the wait of a refused request (DESIGN CHOICE, log 47). -/
def bindPassage (tag : Tag) (kind : TransactionKind) (onePass : Bool) (p : Passage) (s : State) : State :=
  let p' := p.bound s tag kind onePass
  let s' := answer .done (.bound (lookupTag s tag) p'.holds p'.number) (keepResult p'.axles (setPassage p' s))
  match requestOutcome s' p' with
  | .accepted => issueTicket p' s'
  | .notMade => report (some p'.state) (some p'.state) .bound none p' s'
  | .refused r =>
    let p'' := { p' with holds := addHold r p'.holds }
    report (some p''.state) (some p''.state) .bound none p'' (setPassage p'' s')

/-- IDENTIFY (R117). -/
def identify (tag : Tag) (kind onePass : Byte) (s : State) : State :=
  match kindOf kind, firstOrSecond onePass with
  | some k, some o =>
    if tag = 0 then answer .badValue .nothing s
    else
      match s.psu.passage with
      | none => answer .noPassage .nothing s
      | some p =>
        if p.identity.isSome then answer .alreadyBound .nothing s
        else if p.state == .arriving || p.state == .onBridge || p.state == .captured then bindPassage tag k o p s
        else answer .wrongState .nothing s
  | _, _ => answer .badValue .nothing s

/-- A hold is released (R121): the reply, then the request's judgement or the report. -/
def releaseFrom (r : HoldReason) (p : Passage) (s : State) : State :=
  let p' := { p with holds := dropHold r p.holds }
  let s' := answer .done (.holds p'.holds) (setPassage p' s)
  if r.isPreTicket then judgeAfterRemoval p' s' else report (some p'.state) (some p'.state) .holdChange none p' s'

/-- RELEASE_HOLD (R121). -/
def releaseHold (passage : BitVec 16) (reason : Byte) (s : State) : State :=
  match reasonOf reason with
  | none => answer .badValue .nothing s
  | some r =>
    match s.psu.passage with
    | none => answer .noPassage .nothing s
    | some p =>
      if p.number != passage then answer .noPassage .nothing s
      else if r.isWait then answer .badValue .nothing s
      else if !p.holds.contains r then answer .notFound .nothing s
      else releaseFrom r p s

/-- ABANDON (R125). -/
def abandon (passage : BitVec 16) (s : State) : State :=
  match s.psu.passage with
  | none => answer .noPassage .nothing s
  | some p =>
    if p.number != passage then answer .noPassage .nothing s
    else
      match p.state with
      | .issuing => answer .busy .nothing s
      | .done | .leaving | .clearing => answer .wrongState .nothing s
      | .arriving | .onBridge | .captured => toClearing .abandoned none p (answer .done .nothing s)

/-! ## Ticket Unit -/

/-- RELEASE_TICKET (R148). -/
def releaseTicket (number : BitVec 32) (s : State) : State :=
  if number = 0 then answer .badValue .nothing s
  else if s.stc.fault then answer .storeFault .nothing s
  else if (s.stc.store.ticket.slotOf number).isNone then answer .notFound .nothing s
  else holdQueue (handUpdate (.release number) s)

/-- FETCH_TICKET (R150). -/
def fetchTicket (number : BitVec 32) (s : State) : State :=
  if number = 0 then answer .badValue .nothing s
  else if !s.ticketsUsable then answer .storeFault .nothing s
  else
    match s.stc.store.ticket.slotOf number with
    | none => answer .notFound .nothing s
    | some i =>
      match s.stc.store.ticket.ring.getD i none with
      | some t => answer .done (.slot i) (offer (.ticket true i t) s)
      | none => answer .notFound .nothing s

/-- READ_TRANSACTION (R130). -/
def readTransaction (tag : Tag) (s : State) : State :=
  if tag = 0 then answer .badValue .nothing s
  else if !s.ticketsUsable then answer .storeFault .nothing s
  else
    let table := s.stc.store.transaction.table
    match findOpen tag table with
    | some e => answer .done (.transaction (some e) table.length s.counters) s
    | none => answer .notFound (.transaction none table.length s.counters) s

/-- A tag is bound to the passage, in any state (R131). -/
def State.tagBound (s : State) (tag : Tag) : Bool :=
  match s.psu.passage.bind (·.identity) with
  | some i => i.tag == tag
  | none => false

/-- PURGE_TRANSACTION (R131). -/
def purgeTransaction (tag : Tag) (s : State) : State :=
  if tag = 0 then answer .badValue .nothing s
  else if s.stc.fault then answer .storeFault .nothing s
  else if (findOpen tag s.stc.store.transaction.table).isNone then answer .notFound .nothing s
  else if s.tagBound tag then answer .busy .nothing s
  else holdQueue (handUpdate (.purge tag) s)

end Sys2Proof.Machine
end

