-- ==== Sys2Proof/Machine/RunControl.lean ====
section
/-! DEFINITION. Run Control, the Calendar Clock, the resets (11, and the reset tables of every chapter), and the
directives of the Cell Line Controller, the Weighing Engine and the Terminal Link Interface. -/

namespace Sys2Proof.Machine

/-! ## START and HALT -/

/-- The Cell Line Controller at START (R20): the node records are made fresh for the run and the timer starts. -/
def Clc.started (list : List Nat) (now : Stamp) (c : Clc) : Clc :=
  { c with
    nodes := c.nodes.mapIdx fun i r =>
      { r with state := if list.contains (i + 1) then .searching else .unassigned, missed := 0, lastSequence := none }
    scan := none
    scanPending := false
    attempt := none
    scanTimer := some now }

/-- START (R207, R20, R49). -/
def start (s : State) : State :=
  if s.rnc.runState != .halted then answer .wrongState .nothing s
  else if s.calibrationDamaged then answer .noCalibration .nothing s
  else
    let s := reloadDecks (setClc (s.clc.started s.committed.pollList s.ylu.timebase) s)
    let s := { s with rnc := { s.rnc with warmupLength := s.committed.warmupLength, warmupCount := 0 } }
    answer .done .nothing (setRunState .warmup s)

/-- What happens at once when HALT is taken, but for the run state (R208, R20, R16, R167, R191). -/
def stopRun (s : State) : State :=
  let s := setClc { s.clc with
    scanTimer := none, scan := none, scanPending := false, attempt := none
    haltTodo := s.clc.strayNodes, nodes := s.clc.nodes.map (·.toNormal) } s
  let s := setSession none (endCalibration s)
  { s with rnc := { s.rnc with warmupCount := 0 } }

/-- The entry to HALTED: the passage is discarded and the run state changes (R208, R127). No rule orders the PASSAGE
frame with cause HALT and RUN_STATE_CHANGED; PASSAGE HALT stands first as in the worked example of chapter 11
(11_run_control_calendar_and_the_store.md, step 5; DEDUCED, log 31). -/
def enterHalted (s : State) : State := setRunState .halted (discardPassage s)

/-- HALT's work ends at once: no update is in flight and no node is to be polled (R208, R16). -/
def State.haltsAtOnce (s : State) : Bool := s.stc.queue.isEmpty && (s.clc.haltTodo.isEmpty || s.clc.line == .broken)

/-- HALT (R208): it passes through HALTING for no time, or enters it and holds the directive queue. -/
def halt (s : State) : State :=
  match s.rnc.runState with
  | .halted | .halting => answer .wrongState .nothing s
  | .warmup | .run =>
    let s := stopRun s
    if s.haltsAtOnce then answer .done .nothing (enterHalted (setClc { s.clc with haltTodo := [] } s))
    else haltGoesOn (holdQueue (setRunState .halting s))

/-- Nothing is left of HALTING: no update waits and no NORMAL poll is open or still to be sent (R208). -/
def State.haltOver (s : State) : Bool :=
  s.rnc.runState == .halting && s.stc.queue.isEmpty && s.clc.attempt.isNone && s.clc.haltTodo.isEmpty

/-- HALTING_END (R208, log 26). -/
def haltingEnds (s : State) : State :=
  if s.haltOver then answerHeld .done .nothing (enterHalted s) else s

/-! ## RESTART -/

/-- The nodes and decks after either reset (R21, R50), from the committed deck map when it can be read. -/
def resetNodes (s : State) : State :=
  let named (n : Nat) : Bool := !s.calibrationDamaged && s.committed.pollList.contains n
  let deckOf (i : Nat) : Option Deck :=
    if s.calibrationDamaged || (s.committed.deck i).mask == 0 then none else some (.fresh (s.committed.deck i).zeroCal)
  { s with
    clc := { Clc.powerOn with nodes := (List.range 16).map fun i => .fresh (named (i + 1)) }
    wge := { Wge.powerOn with decks := (List.range 4).map deckOf } }

/-- The Terminal Link Interface after RESTART, before its reply (R203). -/
def Tli.restart (t : Tli) : Tli :=
  { t with
    badFrames := 0, directives := [], executing := false, classA := [], weightSlot := none, sampleSlot := none
    overflow := false, scanOverrun := false }

/-- An update that outlives RESTART has no passage left to tell (R154, R209, log 17). -/
def Update.orphaned : Update → Update
  | .ticket t change _ => .ticket t change none
  | u => u

/-- Every block in its restart state (R209 and the reset tables of each chapter). -/
def restartBlocks (s : State) : State :=
  resetNodes { s with
    ylu := s.ylu.restart
    axm := .cleared
    psu := .cleared
    clu := { staged := none, openingRecorded := false }
    vfu := { s.vfu with session := none }
    tli := s.tli.restart
    rnc := { s.rnc with runState := .halted, warmupCount := 0 }
    stc := { s.stc with queue := s.stc.queue.map (·.orphaned) } }

/-- RESTART (R209, R203): the reply is the first frame of the emptied queue, RUN_STATE_CHANGED the second. -/
def restart (s : State) : State :=
  match s.tli.directives with
  | [] => s
  | q :: waiting =>
    let s' := replyTo q.ref q.directive.code .done (.count waiting.length) (restartBlocks s)
    if s.rnc.runState == .halted then s' else raise (.runStateChanged s.rnc.runState .halted) s'

/-! ## Power -/

/-- POWER_ON (R215, R192, R51, R55): the state at NPOR release, with the store as power-off left it and its check
begun (log 6). -/
def poweredOn (rate1 rate0 : Bool) (levels : RawLevels) (s : State) : State where
  powered := true
  clc := .powerOn
  wge := .powerOn
  ylu := .powerOn levels
  axm := .cleared
  vtb := .powerOn
  psu := .cleared
  clu := { staged := none, openingRecorded := false }
  vfu := { session := none, zeroLimitPending := false }
  tli := .powerOn rate1 rate0
  rnc := .powerOn
  cck := { time := .powerOn, isSet := false }
  stc :=
    { store := s.stc.store, queue := [], fault := false, damaged := ⟨false, false, false, false⟩, checking := true }
  freeCount := s.freeCount
  pending := s.pending

/-- An area is damaged. -/
def areasAny (a : Areas) : Bool := a.calibration || a.status || a.ticket || a.transaction

/-- STORE_CHECK_COMPLETE (R215, R140, R176): the outcome is handed to the reading blocks. -/
def checkComplete (found : Areas) (s : State) : State :=
  if s.stc.checking then
    let damaged := { found with ticket := found.ticket || s.stc.store.ticket.next == 0 }
    let s := resetNodes
      { s with stc := { s.stc with damaged := damaged, fault := areasAny damaged, queue := [], checking := false } }
    let s := if areasAny damaged then raise (.storeFault (.damaged damaged)) s else s
    if s.verified then raise (.tradeStatusChanged true s.reasonSet s.vfu.zeroLimitPending .powerOn) s else s
  else s

/-- POWER_LOSS (R214): every volatile block and every update not completed is gone; the store stands (log 6). -/
def powerLost (s : State) : State :=
  { State.reset with
    powered := false
    stc := { State.reset.stc with store := s.stc.store }
    freeCount := s.freeCount
    pending := s.pending }

/-! ## Site settings, clock and status -/

/-- PUT_SITE (R210, R54). -/
def putSite (block : List Byte) (s : State) : State :=
  if s.rnc.runState != .halted then answer .wrongState .nothing s
  else
    match siteFlaw block with
    | some offset => answer .badValue (.siteOffset offset) s
    | none => answer .done .nothing (acceptAllRipe { s with rnc := { s.rnc with site := siteOf block } })

/-- READ_SITE (R210). -/
def readSite (s : State) : State := answer .done (.site s.rnc.site) s

/-- SET_CLOCK (R211). -/
def setClock (c : ClockFields) (s : State) : State :=
  if ClockFields.valid c then
    answer .done (.clockWas (if s.cck.isSet then some s.cck.time else none))
      { s with cck := { time := ClockFields.time c, isSet := true } }
  else answer .badValue .nothing s

/-- CLOCK_SECOND (R211): the clock counts while it is set, and stops past 2099. -/
def secondPassed (s : State) : State :=
  if s.cck.isSet then
    match s.cck.time.tick with
    | some t => { s with cck := { s.cck with time := t } }
    | none => { s with cck := { s.cck with isSet := false } }
  else s

/-- An input filter as READ_STATUS shows it (R59). -/
def InputFilter.shown (f : InputFilter) : InputReport :=
  { accepted := f.accepted, candidateOpen := f.candidate.isSome, last := f.last, chatter := f.chatter }

/-- The store case of R152 that applies (R202). A fault flag set by a damaged calibration or status area alone, for which
R152 names no case, shows as that of a failed write (DESIGN CHOICE, log 37). -/
def State.storeCase (s : State) : StoreCase :=
  if !s.ticketsUsable then .unusable else if s.stc.fault then .writeFault else .clear

/-- The reply of READ_STATUS (R202). While the ticket area is unusable the TKU has no view (R152): the fill pointer, the
slot state and the counters are then sent as they stand in the stored area (DESIGN CHOICE, log 37). Without an audit session
its number of points is 0 (DESIGN CHOICE, log 53). -/
def statusReport (s : State) : StatusReport where
  rate1 := s.tli.rate1
  rate0 := s.tli.rate0
  badFrames := s.tli.badFrames
  overflow := s.tli.overflow
  queued := s.tli.classA.length
  interval := s.tli.interval
  mirror := s.tli.mirror
  foremost := s.foremost
  runState := s.rnc.runState
  clockSet := s.cck.isSet
  calibrationMode := s.calibrating
  line := s.clc.line
  scanOverrun := s.tli.scanOverrun
  inputs := [s.ylu.entryLoop.shown, s.ylu.exitLoop.shown, s.ylu.stripA.shown, s.ylu.stripB.shown, s.ylu.calSwitch.shown]
  entryGreen := s.ylu.entryGreen
  exitGreen := s.ylu.exitGreen
  exitBarrier := s.ylu.exitBarrier
  timebase := s.ylu.timebase
  verified := s.verified
  reasons := s.reasonSet
  zeroLimitPending := s.vfu.zeroLimitPending
  auditOpen := s.vfu.session.isSome
  auditPoints := match s.vfu.session with
    | some session => session.points.length
    | none => 0
  passage := s.psu.passage
  passageCounter := s.psu.counter
  fill := s.stc.store.ticket.fill
  slotFree := !s.fillSlotPosted
  counters := s.counters
  storeCase := s.storeCase

/-- READ_STATUS (R202): what it clears is cleared only if the reply found room. -/
def readStatus (s : State) : State :=
  let s' := answer .done (.status (statusReport s)) s
  if s.tli.classA.length < Config.classACapacity then
    { s' with tli := { s'.tli with badFrames := 0, overflow := false, scanOverrun := false } }
  else s'

/-! ## Directives of the CLC and the WGE -/

/-- LINE_TEST (R17). -/
def lineTest (s : State) : State :=
  if s.rnc.runState != .halted then answer .wrongState .nothing s
  else holdQueue (setClc { s.clc with lineTest := true } s)

/-- LINE_TEST_COMPLETE (R17): the receiver is reconnected and the count replied. -/
def lineTested (back : List (Option CellChar)) (s : State) : State :=
  if s.clc.lineTest then
    answerHeld .done (.lineTest (testMismatches back)) (setClc { s.clc with lineTest := false } s)
  else s

/-- A node's record with its error count and last error kind cleared (R18). -/
def NodeRecord.cleared (r : NodeRecord) : NodeRecord := { r with errorCount := 0, lastError := none }

/-- READ_NODE (R18). -/
def readNode (node clear : Byte) (s : State) : State :=
  match nodeOf node, firstOrSecond clear with
  | some n, some c =>
    let r := s.clc.node n
    answer .done (.node r) (if c then setClc (s.clc.setNode n r.cleared) s else s)
  | _, _ => answer .badValue .nothing s

/-- Why a deck cannot be zeroed, rows 2 to 6 of R36; none is row 7. -/
def zeroFlaw (s : State) (i : Nat) : Option Status :=
  if s.rnc.runState != .run then some .wrongState
  else
    match s.wge.deck i with
    | none => some .notFound
    | some d =>
      if !s.idle then some .busy
      else
        match d.state, d.stable, d.value, d.initialZero with
        | .valid, true, some f, some initial =>
          if s.setInUse.zeroLimit < ((d.zero + f - initial).natAbs : Int) then some .outOfZeroRange else none
        | _, _, _, _ => some .unstable

/-- A deck set to zero by directive (R36). -/
def Deck.zeroed (d : Deck) : Deck := { d.rebased (d.value.getD 0) with trackRun := 0 }

/-- ZERO_DECK naming one deck (R36). -/
def zeroOne (i : Nat) (s : State) : State :=
  match zeroFlaw s i, s.wge.deck i with
  | none, some d => answer .done (.correction (d.value.getD 0)) (setDeck i d.zeroed s)
  | some flaw, _ => answer flaw .nothing s
  | none, none => answer .notFound .nothing s

/-- The configured decks, ascending. -/
def State.configuredDecks (s : State) : List Nat := (List.range 4).filter fun i => (s.wge.deck i).isSome

/-- ZERO_DECK naming all decks (R37): with no configured deck none is judged. -/
def zeroAll (s : State) : State :=
  match s.configuredDecks with
  | [] => answer .notFound .nothing s
  | decks =>
    match decks.find? (fun i => (zeroFlaw s i).isSome) with
    | some i => answer ((zeroFlaw s i).getD .unstable) (.deck i) s
    | none =>
      answer .done
        (.corrections (decks.filterMap fun i => (s.wge.deck i).map fun d => (i, d.value.getD 0)))
        { s with wge := { s.wge with decks := s.wge.decks.map (Option.map Deck.zeroed) } }

/-- ZERO_DECK (R36, R37): FFh names all decks. -/
def zeroDeck (deck : Byte) (s : State) : State :=
  if deck = 0xFF then zeroAll s
  else if deck.toNat < 4 then zeroOne deck.toNat s
  else answer .badValue .nothing s

/-- READ_WEIGHT (R48). -/
def readWeight (s : State) : State := answer .done (.weight s.wge.latest) s

/-- SET_STREAM (R47). -/
def setStream (interval mirror : Byte) (s : State) : State :=
  match offOrOn mirror with
  | some m =>
    answer .done .nothing
      { s with wge := { s.wge with streamCount := 0 }, tli := { s.tli with interval := interval.toNat, mirror := m } }
  | none => answer .badValue .nothing s

end Sys2Proof.Machine
end

