-- ==== Sys2Proof/Machine/Link.lean ====
section
/-! DEFINITION. The Terminal Link Interface (10): the CRC, the receive framer, admission, and the execution of the
directive queue; and the form every command's effect has. -/

namespace Sys2Proof.Machine

/-! ## The frame envelope (R193, R204) -/

/-- One bit of the CRC x^16 + x^12 + x^5 + 1 (R193). -/
def crcBit (crc : BitVec 16) : BitVec 16 := if crc.getLsbD 15 then (crc <<< 1) ^^^ 0x1021 else crc <<< 1

/-- One byte of the CRC, most significant bit first (R193). -/
def crcByte (crc : BitVec 16) (b : Byte) : BitVec 16 :=
  crcBit (crcBit (crcBit (crcBit (crcBit (crcBit (crcBit (crcBit (crc ^^^ (b.setWidth 16 <<< 8)))))))))

/-- The CRC of a run of bytes; the register starts at FFFFh (R193). -/
def crc16 (bytes : List Byte) : BitVec 16 := bytes.foldl crcByte 0xFFFF

/-- SYNC (10 "Frames and the receive framer"). -/
def sync : Byte := 0xA5

/-- The TYPE of a DIRECTIVE frame (R204). -/
def directiveType : Byte := 0x01

/-- The bytes from LEN to the end of the payload. -/
def frameCore (type : Byte) (payload : List Byte) : List Byte := BitVec.ofNat 8 payload.length :: type :: payload

/-- A frame in its envelope (R204). -/
def envelope (type : Byte) (payload : List Byte) : List Byte :=
  sync :: frameCore type payload ++ fieldBytes (crc16 (frameCore type payload)) 2

/-! ## Admission (R194) -/

/-- A directive joins the directive queue, or is answered QUEUE_FULL (R194 rows 3 and 4). -/
def enqueue (ref : Byte) (d : Directive) (s : State) : State :=
  if Config.directiveCapacity ≤ s.tli.directives.length then replyTo ref d.code .queueFull .nothing s
  else { s with tli := { s.tli with directives := s.tli.directives ++ [⟨ref, d⟩] } }

/-- A DIRECTIVE frame's payload is judged (R194). -/
def takePayload (payload : List Byte) (s : State) : State :=
  match judgePayload payload with
  | .unknown ref code => replyTo ref code .unknownDirective .nothing s
  | .malformed ref code => replyTo ref code .malformed .nothing s
  | .directive ref d => enqueue ref d s

/-- A directive arrives in a good frame (R194 rows 2 to 4, log 4). -/
def submit (ref : Byte) (d : Directive) (s : State) : State :=
  if d.wellFormed then enqueue ref d s else replyTo ref d.code .malformed .nothing s

/-! ## The receive framer (R193) -/

/-- Replaces the framer's state. -/
def setFramer (f : Framer) (s : State) : State := { s with tli := { s.tli with framer := f } }

/-- Discards the frame in hand (R193). -/
def discardFrame (s : State) : State :=
  { s with tli := { s.tli with framer := .hunt, badFrames := saturatingSucc Config.max16 s.tli.badFrames } }

/-- A complete frame: the bytes from LEN to the second CRC byte (R193). -/
def frameComplete (bytes : List Byte) (s : State) : State :=
  let core := bytes.take (bytes.length - 2)
  if core ++ fieldBytes (crc16 core) 2 != bytes then discardFrame s
  else
    match core with
    | _ :: type :: payload => if type != directiveType then discardFrame s else takePayload payload (setFramer .hunt s)
    | _ => discardFrame s

/-- A character arrives (R193). -/
def receiveChar (c : LinkChar) (s : State) : State :=
  match s.tli.framer with
  | .hunt => if c.stopOk && c.data == sync then setFramer (.inFrame []) s else s
  | .inFrame bytes =>
    if !c.stopOk then discardFrame s
    else
      let bytes := bytes ++ [c.data]
      match bytes with
      | [] => s
      | len :: rest =>
        if len == 0 || 250 < len.toNat then discardFrame s
        else if rest.length == len.toNat + 3 then frameComplete bytes s
        else setFramer (.inFrame bytes) s

/-- A run of characters arrives. Directives of several frames in one run are all admitted, or answered QUEUE_FULL, before
the first of them is handed to its owner (DESIGN CHOICE, log 4). -/
def receiveChars (chars : List LinkChar) (s : State) : State := chars.foldl (fun s c => receiveChar c s) s

/-- A gap of more than five character times inside a frame (R193). -/
def gapPassed (s : State) : State :=
  match s.tli.framer with
  | .inFrame _ => discardFrame s
  | .hunt => s

/-- The transmitter ends its frame and the arbiter chooses (R200). -/
def frameSent (s : State) : State := { s with tli := Tli.choose { s.tli with sending := none } }

/-! ## Execution (R195) -/

/-- The owner of the directive at the head of the queue judges it by its own rule (R195, R196). -/
def runDirective : Directive → State → State
  | .start => start
  | .halt => halt
  | .restart => restart
  | .putSite block => putSite block
  | .readSite => readSite
  | .lineTest => lineTest
  | .readNode node clear => readNode node clear
  | .zeroDeck deck => zeroDeck deck
  | .readWeight => readWeight
  | .setStream interval mirror => setStream interval mirror
  | .putVehicle tag cls present tare allowed blocked => putVehicle tag cls present tare allowed blocked
  | .dropVehicle tag => dropVehicle tag
  | .clearVehicles => clearVehicles
  | .readVehicle tag => readVehicle tag
  | .putClass number filled fields => putClass number filled fields
  | .readClass number => readClass number
  | .putHoldMask mask salt => putHoldMask mask salt
  | .identify tag kind onePass => identify tag kind onePass
  | .releaseHold passage reason => releaseHold passage reason
  | .abandon passage => abandon passage
  | .releaseTicket number => releaseTicket number
  | .fetchTicket number => fetchTicket number
  | .readTransaction tag => readTransaction tag
  | .purgeTransaction tag => purgeTransaction tag
  | .enterCal => enterCal
  | .setParam identifier place value => setParam identifier place value
  | .readParam identifier place selection => readParam identifier place selection
  | .commitCal => commitCal
  | .leaveCal => leaveCal
  | .readTrail start => readTrail start
  | .openAudit => openAudit
  | .capturePoint target declared => capturePoint target declared
  | .checkReference cell => checkReference cell
  | .closeAudit => closeAudit
  | .abortAudit => abortAudit
  | .setClock fields => setClock fields
  | .readStatus => readStatus

/-- The oldest directive may be handed to its owner: none is executing (R195). -/
def State.mayExecute (s : State) : Bool := !s.tli.executing && !s.stc.checking

/-- Hands the queued directives to their owners, oldest first, while none is executing (R195). Each handing takes a
directive off the queue, or one that holds it ends the round, so `n` at the queue's length is enough. -/
def drain : Nat → State → State
  | 0, s => s
  | n + 1, s =>
    if s.mayExecute then
      match s.tli.directives with
      | [] => s
      | q :: _ => drain n (refreshLights (runDirective q.directive s))
    else s

/-- What follows every handling: the outputs are recomputed (R61), and directives that can be executed are (R195).
During the power-on check the owners have told the YLU nothing yet and no directive is executed (R64, R215). -/
def finish (s : State) : State :=
  if s.stc.checking then s
  else
    let s := refreshLights s
    drain s.tli.directives.length s

/-! ## The form of a command's effect -/

/-- A command's outcome. -/
abbrev Answer := Host.Outcome State Fault Refusal

/-- A command taken at a timebase reading: its effect, then what follows every handling. A part without power does
nothing (log 6). -/
def handle (now : Stamp) (effect : State → State) (s : State) : Answer :=
  .next (if s.powered then finish (effect (atTime now s)) else s)

/-- A directive row (log 4): the directive arrives and is handed on as far as the queue allows. -/
def arrive (now : Stamp) (ref : Byte) (d : Directive) (s : State) : Answer := handle now (submit ref d) s

end Sys2Proof.Machine
end

