-- ==== Sys2Proof/Machine/Events.lean ====
section
/-! DEFINITION. The meanings of the commands that are not directives: power, the terminal link's characters, the cell
line, the timers, the yard and the store. Where a command's condition does not hold it is no occurrence, and only
the timebase moves (log 2). Rows that also come about inside larger steps keep a meaning of their own (log 3). -/

namespace Sys2Proof.Machine

/-! ## Power -/

/-- POWER_ON (R215). -/
def execPowerOn (rate1 rate0 : Bool) (levels : RawLevels) (s : State) : Answer := .next (poweredOn rate1 rate0 levels s)

/-- STORE_CHECK_COMPLETE (R215). -/
def execStoreCheckComplete (now : Stamp) (damaged : Areas) (s : State) : Answer := handle now (checkComplete damaged) s

/-- POWER_LOSS (R214). -/
def execPowerLoss (s : State) : Answer := .next (powerLost s)

/-! ## Terminal link -/

/-- FRAME_RECEIVED (R193, R194). -/
def execFrameReceived (now : Stamp) (chars : List LinkChar) (s : State) : Answer := handle now (receiveChars chars) s

/-- FRAME_GAP_TIMEOUT (R193). -/
def execFrameGapTimeout (now : Stamp) (s : State) : Answer := handle now gapPassed s

/-- TRANSMIT_FRAME_END (R200). -/
def execTransmitFrameEnd (now : Stamp) (s : State) : Answer := handle now frameSent s

/-- CHARACTER_RECEIVED (R193). -/
def execCharacterReceived (now : Stamp) (c : LinkChar) (s : State) : Answer := handle now (receiveChar c) s

/-- The record of the latest handoff is offered when the stream count reaches the interval (R47), in the run states in which
records are published (R46, R207; the row on its own: log 3). -/
def offerLatest (s : State) : State :=
  match s.wge.latest with
  | some r => if s.scanning && s.offerDue then offerRecord r (countStream s) else s
  | none => s

/-- STREAM_OFFER (R47). -/
def execStreamOffer (now : Stamp) (s : State) : Answer := handle now offerLatest s

/-! ## Run control and calendar -/

/-- HALTING_END (R208). -/
def execHaltingEnd (now : Stamp) (s : State) : Answer := handle now haltingEnds s

/-- The warm-up count reaches the warm-up length (R207). -/
def warmupEnds (s : State) : State := if s.rnc.warmupLength ≤ s.rnc.warmupCount + 1 then countWarmup s else s

/-- WARMUP_END (R207). -/
def execWarmupEnd (now : Stamp) (s : State) : Answer := handle now warmupEnds s

/-- CLOCK_SECOND (R211). -/
def execClockSecond (now : Stamp) (s : State) : Answer := handle now secondPassed s

/-! ## Cell line -/

/-- The scan timer has run for the scan period (R4): its next period begins where this one ended. -/
def scanTimerRuns (s : State) : State :=
  match s.clc.scanTimer with
  | some since =>
    let period := s.rnc.site.scanPeriod * 1000
    if s.scanning && period ≤ elapsed since s.ylu.timebase then
      timerExpired (setClc { s.clc with scanTimer := some (since + BitVec.ofNat 32 period) } s)
    else s
  | none => s

/-- SCAN_TIMER_EXPIRY (R4, R5). -/
def execScanTimerExpiry (now : Stamp) (s : State) : Answer := handle now scanTimerRuns s

/-- REPLY_WINDOW_END (R6 to R9, R16). -/
def execReplyWindowEnd (now : Stamp) (received : List CellChar) (s : State) : Answer := handle now (windowEnded received) s

/-- A node's missing count reaches the lost limit (R11). -/
def nodeReachesLimit (node : Nat) (s : State) : State :=
  let r := s.clc.node node
  if s.scanning && (r.state == .searching || r.state == .suspect) && s.rnc.site.lostLimit ≤ r.missed + 1 then
    raise (.nodeLost node) (setClc (s.clc.setNode node { r with state := .lost, missed := r.missed + 1 }) s)
  else s

/-- NODE_LOST (R11). -/
def execNodeLost (now : Stamp) (node : Nat) (s : State) : Answer := handle now (nodeReachesLimit node) s

/-- The line is watched for a break while it is NORMAL and no LINE_TEST runs (R12, R17), once the power-on check has let
the CLC take its power-on state (R21, R215). -/
def breakSeen (received : List CellChar) (s : State) : State :=
  if s.clc.line == .normal && !s.clc.lineTest && !s.stc.checking then lineBroken received s else s

/-- LINE_BREAK (R12). -/
def execLineBreak (now : Stamp) (received : List CellChar) (s : State) : Answer := handle now (breakSeen received) s

/-- The line is watched for its return while it is in BREAK and no LINE_TEST runs (R13, R17). -/
def markSeen (s : State) : State := if s.clc.line == .broken && !s.clc.lineTest then lineMended s else s

/-- LINE_RESTORED (R13). -/
def execLineRestored (now : Stamp) (s : State) : Answer := handle now markSeen s

/-- LINE_TEST_COMPLETE (R17). -/
def execLineTestComplete (now : Stamp) (back : List (Option CellChar)) (s : State) : Answer := handle now (lineTested back) s

/-! ## Weighing -/

/-- An incomplete scan takes a deck past its hold limit (R31). -/
def deckPassesLimit (deck : Nat) (s : State) : State :=
  match s.wge.deck deck with
  | some d =>
    let limit := s.rnc.site.holdLimit
    if s.scanning && d.faults limit then raise (.deckFault deck) (setDeck deck (d.incomplete limit) s) else s
  | none => s

/-- DECK_FAULT (R31). -/
def execDeckFault (now : Stamp) (deck : Nat) (s : State) : Answer := handle now (deckPassesLimit deck) s

/-- A deck's zero-track run reaches ZT (R38, R39). -/
def trackRunEnds (deck : Nat) (s : State) : State :=
  match s.wge.deck deck with
  | some d =>
    if s.tracking && d.trackable s.setInUse && s.setInUse.zeroTrackWindow ≤ d.trackRun + 1 then trackDeck deck d s else s
  | none => s

/-- ZERO_TRACK_CORRECTION (R39). -/
def execZeroTrackCorrection (now : Stamp) (deck : Nat) (s : State) : Answer := handle now (trackRunEnds deck) s

/-! ## Yard, passage and axles -/

/-- RAW_TRANSITION (R51 to R53, R55). -/
def execRawTransition (now : Stamp) (input : YardInput) (asserted : Bool) (s : State) : Answer :=
  handle now (rawChange input asserted) s

/-- FILTER_ACCEPT (R52). -/
def execFilterAccept (now : Stamp) (input : YardInput) (s : State) : Answer := handle now (acceptRipe input) s

/-- SETTLING_COMPLETE (R55). -/
def execSettlingComplete (now : Stamp) (input : YardInput) (s : State) : Answer := handle now (settleInput input) s

/-- CAPTURE_TIMEOUT (R116). -/
def execCaptureTimeout (now : Stamp) (s : State) : Answer := handle now captureTimer s

/-- PAIRING_EXPIRY (R70). -/
def execPairingExpiry (now : Stamp) (s : State) : Answer := handle now pairingTimer s

/-! ## Audits -/

/-- The scan completion at which the handoff count reaches 32 with fewer than eight samples (R183, R184). -/
def checkTimesOut (s : State) : State :=
  match s.vfu.session.bind (·.check) with
  | some check => if 32 ≤ check.handoffs + 1 && check.samples < 8 then referenceCounts [] s else s
  | none => s

/-- REFERENCE_CHECK_TIMEOUT (R183). -/
def execReferenceCheckTimeout (now : Stamp) (s : State) : Answer := handle now checkTimesOut s

/-! ## Store -/

/-- STORE_UPDATE_COMPLETE (R213). -/
def execStoreUpdateComplete (now : Stamp) (s : State) : Answer := handle now (fun s => haltGoesOn (updateComplete s)) s

/-- STORE_UPDATE_FAILED (R214). -/
def execStoreUpdateFailed (now : Stamp) (s : State) : Answer := handle now (fun s => haltGoesOn (updatesFail s)) s

end Sys2Proof.Machine
end

