-- ==== Sys2Proof/Machine/Directives.lean ====
section
/-! DEFINITION. The meanings of the directive rows: the directive arrives with its reference byte (R194), and its owner
judges it as the queue allows (R195, log 4). Its rule is carried out by the owner's operation. -/

namespace Sys2Proof.Machine

/-- START (R207). -/
def execStart (now : Stamp) (ref : Byte) (s : State) : Answer := arrive now ref .start s

/-- HALT (R208). -/
def execHalt (now : Stamp) (ref : Byte) (s : State) : Answer := arrive now ref .halt s

/-- RESTART (R209). -/
def execRestart (now : Stamp) (ref : Byte) (s : State) : Answer := arrive now ref .restart s

/-- PUT_SITE (R210). -/
def execPutSite (now : Stamp) (ref : Byte) (block : List Byte) (s : State) : Answer :=
  arrive now ref (.putSite block) s

/-- READ_SITE (R210). -/
def execReadSite (now : Stamp) (ref : Byte) (s : State) : Answer := arrive now ref .readSite s

/-- LINE_TEST (R17). -/
def execLineTest (now : Stamp) (ref : Byte) (s : State) : Answer := arrive now ref .lineTest s

/-- READ_NODE (R18). -/
def execReadNode (now : Stamp) (ref : Byte) (node : Byte) (clear : Byte) (s : State) : Answer :=
  arrive now ref (.readNode node clear) s

/-- ZERO_DECK (R36). -/
def execZeroDeck (now : Stamp) (ref : Byte) (deck : Byte) (s : State) : Answer := arrive now ref (.zeroDeck deck) s

/-- ZERO_DECK_ALL (R37). -/
def execZeroDeckAll (now : Stamp) (ref : Byte) (s : State) : Answer := arrive now ref (.zeroDeck 0xFF) s

/-- READ_WEIGHT (R48). -/
def execReadWeight (now : Stamp) (ref : Byte) (s : State) : Answer := arrive now ref .readWeight s

/-- SET_STREAM (R47). -/
def execSetStream (now : Stamp) (ref : Byte) (interval : Byte) (mirror : Byte) (s : State) : Answer :=
  arrive now ref (.setStream interval mirror) s

/-- PUT_VEHICLE (R90). -/
def execPutVehicle (now : Stamp) (ref : Byte) (tag : Tag) (cls : Byte) (tarePresent : Byte) (tare : BitVec 32) (allowed : Byte) (blocked : Byte) (s : State) : Answer :=
  arrive now ref (.putVehicle tag cls tarePresent tare allowed blocked) s

/-- DROP_VEHICLE (R92). -/
def execDropVehicle (now : Stamp) (ref : Byte) (tag : Tag) (s : State) : Answer := arrive now ref (.dropVehicle tag) s

/-- CLEAR_VEHICLES (R93). -/
def execClearVehicles (now : Stamp) (ref : Byte) (s : State) : Answer := arrive now ref .clearVehicles s

/-- READ_VEHICLE (R94). -/
def execReadVehicle (now : Stamp) (ref : Byte) (tag : Tag) (s : State) : Answer := arrive now ref (.readVehicle tag) s

/-- PUT_CLASS (R98). -/
def execPutClass (now : Stamp) (ref : Byte) (number : Byte) (filled : Byte) (fields : ClassFields) (s : State) : Answer :=
  arrive now ref (.putClass number filled fields) s

/-- READ_CLASS (R98). -/
def execReadClass (now : Stamp) (ref : Byte) (number : Byte) (s : State) : Answer :=
  arrive now ref (.readClass number) s

/-- PUT_HOLD_MASK (R100). -/
def execPutHoldMask (now : Stamp) (ref : Byte) (mask : BitVec 64) (salt : Byte) (s : State) : Answer :=
  arrive now ref (.putHoldMask mask salt) s

/-- IDENTIFY (R117). -/
def execIdentify (now : Stamp) (ref : Byte) (tag : Tag) (kind : Byte) (onePass : Byte) (s : State) : Answer :=
  arrive now ref (.identify tag kind onePass) s

/-- RELEASE_HOLD (R121). -/
def execReleaseHold (now : Stamp) (ref : Byte) (passage : BitVec 16) (reason : Byte) (s : State) : Answer :=
  arrive now ref (.releaseHold passage reason) s

/-- ABANDON (R125). -/
def execAbandon (now : Stamp) (ref : Byte) (passage : BitVec 16) (s : State) : Answer :=
  arrive now ref (.abandon passage) s

/-- RELEASE_TICKET (R148). -/
def execReleaseTicket (now : Stamp) (ref : Byte) (number : BitVec 32) (s : State) : Answer :=
  arrive now ref (.releaseTicket number) s

/-- FETCH_TICKET (R150). -/
def execFetchTicket (now : Stamp) (ref : Byte) (number : BitVec 32) (s : State) : Answer :=
  arrive now ref (.fetchTicket number) s

/-- READ_TRANSACTION (R130). -/
def execReadTransaction (now : Stamp) (ref : Byte) (tag : Tag) (s : State) : Answer :=
  arrive now ref (.readTransaction tag) s

/-- PURGE_TRANSACTION (R131). -/
def execPurgeTransaction (now : Stamp) (ref : Byte) (tag : Tag) (s : State) : Answer :=
  arrive now ref (.purgeTransaction tag) s

/-- ENTER_CAL (R157). -/
def execEnterCal (now : Stamp) (ref : Byte) (s : State) : Answer := arrive now ref .enterCal s

/-- SET_PARAM (R159). -/
def execSetParam (now : Stamp) (ref : Byte) (identifier : Byte) (place : Byte) (value : BitVec 32) (s : State) : Answer :=
  arrive now ref (.setParam identifier place value) s

/-- READ_PARAM (R160). -/
def execReadParam (now : Stamp) (ref : Byte) (identifier : Byte) (place : Byte) (selection : Byte) (s : State) : Answer :=
  arrive now ref (.readParam identifier place selection) s

/-- COMMIT_CAL (R162). -/
def execCommitCal (now : Stamp) (ref : Byte) (s : State) : Answer := arrive now ref .commitCal s

/-- LEAVE_CAL (R167). -/
def execLeaveCal (now : Stamp) (ref : Byte) (s : State) : Answer := arrive now ref .leaveCal s

/-- READ_TRAIL (R171). -/
def execReadTrail (now : Stamp) (ref : Byte) (from_ : BitVec 32) (s : State) : Answer :=
  arrive now ref (.readTrail from_) s

/-- OPEN_AUDIT (R177). -/
def execOpenAudit (now : Stamp) (ref : Byte) (s : State) : Answer := arrive now ref .openAudit s

/-- CAPTURE_POINT (R179). -/
def execCapturePoint (now : Stamp) (ref : Byte) (target : Byte) (declared : BitVec 32) (s : State) : Answer :=
  arrive now ref (.capturePoint target declared) s

/-- CHECK_REFERENCE (R182). -/
def execCheckReference (now : Stamp) (ref : Byte) (cell : Byte) (s : State) : Answer :=
  arrive now ref (.checkReference cell) s

/-- CLOSE_AUDIT (R185). -/
def execCloseAudit (now : Stamp) (ref : Byte) (s : State) : Answer := arrive now ref .closeAudit s

/-- ABORT_AUDIT (R190). -/
def execAbortAudit (now : Stamp) (ref : Byte) (s : State) : Answer := arrive now ref .abortAudit s

/-- SET_CLOCK (R211). -/
def execSetClock (now : Stamp) (ref : Byte) (fields : ClockFields) (s : State) : Answer :=
  arrive now ref (.setClock fields) s

/-- READ_STATUS (R202). -/
def execReadStatus (now : Stamp) (ref : Byte) (s : State) : Answer := arrive now ref .readStatus s

end Sys2Proof.Machine
end

