-- ==== Sys2Proof/Machine/Dispatch.lean ====
section
/-! DEFINITION. One arm for each command, in the order of spec/opcode_table.json. -/

namespace Sys2Proof.Machine

def exec (i : Instr) (s : State) : Host.Outcome State Fault Refusal :=
  match i with
  | .powerOn rate1 rate0 levels => Sys2Proof.Machine.execPowerOn rate1 rate0 levels s
  | .storeCheckComplete now damaged => Sys2Proof.Machine.execStoreCheckComplete now damaged s
  | .powerLoss => Sys2Proof.Machine.execPowerLoss s
  | .frameReceived now chars => Sys2Proof.Machine.execFrameReceived now chars s
  | .frameGapTimeout now => Sys2Proof.Machine.execFrameGapTimeout now s
  | .transmitFrameEnd now => Sys2Proof.Machine.execTransmitFrameEnd now s
  | .start now ref => Sys2Proof.Machine.execStart now ref s
  | .halt now ref => Sys2Proof.Machine.execHalt now ref s
  | .haltingEnd now => Sys2Proof.Machine.execHaltingEnd now s
  | .restart now ref => Sys2Proof.Machine.execRestart now ref s
  | .putSite now ref block => Sys2Proof.Machine.execPutSite now ref block s
  | .readSite now ref => Sys2Proof.Machine.execReadSite now ref s
  | .lineTest now ref => Sys2Proof.Machine.execLineTest now ref s
  | .lineTestComplete now back => Sys2Proof.Machine.execLineTestComplete now back s
  | .readNode now ref node clear => Sys2Proof.Machine.execReadNode now ref node clear s
  | .zeroDeck now ref deck => Sys2Proof.Machine.execZeroDeck now ref deck s
  | .zeroDeckAll now ref => Sys2Proof.Machine.execZeroDeckAll now ref s
  | .readWeight now ref => Sys2Proof.Machine.execReadWeight now ref s
  | .setStream now ref interval mirror => Sys2Proof.Machine.execSetStream now ref interval mirror s
  | .putVehicle now ref tag cls tarePresent tare allowed blocked => Sys2Proof.Machine.execPutVehicle now ref tag cls tarePresent tare allowed blocked s
  | .dropVehicle now ref tag => Sys2Proof.Machine.execDropVehicle now ref tag s
  | .clearVehicles now ref => Sys2Proof.Machine.execClearVehicles now ref s
  | .readVehicle now ref tag => Sys2Proof.Machine.execReadVehicle now ref tag s
  | .putClass now ref number filled fields => Sys2Proof.Machine.execPutClass now ref number filled fields s
  | .readClass now ref number => Sys2Proof.Machine.execReadClass now ref number s
  | .putHoldMask now ref mask salt => Sys2Proof.Machine.execPutHoldMask now ref mask salt s
  | .identify now ref tag kind onePass => Sys2Proof.Machine.execIdentify now ref tag kind onePass s
  | .releaseHold now ref passage reason => Sys2Proof.Machine.execReleaseHold now ref passage reason s
  | .abandon now ref passage => Sys2Proof.Machine.execAbandon now ref passage s
  | .releaseTicket now ref number => Sys2Proof.Machine.execReleaseTicket now ref number s
  | .fetchTicket now ref number => Sys2Proof.Machine.execFetchTicket now ref number s
  | .readTransaction now ref tag => Sys2Proof.Machine.execReadTransaction now ref tag s
  | .purgeTransaction now ref tag => Sys2Proof.Machine.execPurgeTransaction now ref tag s
  | .enterCal now ref => Sys2Proof.Machine.execEnterCal now ref s
  | .setParam now ref identifier place value => Sys2Proof.Machine.execSetParam now ref identifier place value s
  | .readParam now ref identifier place selection => Sys2Proof.Machine.execReadParam now ref identifier place selection s
  | .commitCal now ref => Sys2Proof.Machine.execCommitCal now ref s
  | .leaveCal now ref => Sys2Proof.Machine.execLeaveCal now ref s
  | .readTrail now ref from_ => Sys2Proof.Machine.execReadTrail now ref from_ s
  | .openAudit now ref => Sys2Proof.Machine.execOpenAudit now ref s
  | .capturePoint now ref target declared => Sys2Proof.Machine.execCapturePoint now ref target declared s
  | .checkReference now ref cell => Sys2Proof.Machine.execCheckReference now ref cell s
  | .referenceCheckTimeout now => Sys2Proof.Machine.execReferenceCheckTimeout now s
  | .closeAudit now ref => Sys2Proof.Machine.execCloseAudit now ref s
  | .abortAudit now ref => Sys2Proof.Machine.execAbortAudit now ref s
  | .setClock now ref fields => Sys2Proof.Machine.execSetClock now ref fields s
  | .readStatus now ref => Sys2Proof.Machine.execReadStatus now ref s
  | .clockSecond now => Sys2Proof.Machine.execClockSecond now s
  | .scanTimerExpiry now => Sys2Proof.Machine.execScanTimerExpiry now s
  | .replyWindowEnd now received => Sys2Proof.Machine.execReplyWindowEnd now received s
  | .nodeLost now node => Sys2Proof.Machine.execNodeLost now node s
  | .lineBreak now received => Sys2Proof.Machine.execLineBreak now received s
  | .lineRestored now => Sys2Proof.Machine.execLineRestored now s
  | .deckFault now deck => Sys2Proof.Machine.execDeckFault now deck s
  | .zeroTrackCorrection now deck => Sys2Proof.Machine.execZeroTrackCorrection now deck s
  | .streamOffer now => Sys2Proof.Machine.execStreamOffer now s
  | .warmupEnd now => Sys2Proof.Machine.execWarmupEnd now s
  | .rawTransition now input asserted => Sys2Proof.Machine.execRawTransition now input asserted s
  | .filterAccept now input => Sys2Proof.Machine.execFilterAccept now input s
  | .settlingComplete now input => Sys2Proof.Machine.execSettlingComplete now input s
  | .captureTimeout now => Sys2Proof.Machine.execCaptureTimeout now s
  | .pairingExpiry now => Sys2Proof.Machine.execPairingExpiry now s
  | .storeUpdateComplete now => Sys2Proof.Machine.execStoreUpdateComplete now s
  | .storeUpdateFailed now => Sys2Proof.Machine.execStoreUpdateFailed now s
  | .characterReceived now char => Sys2Proof.Machine.execCharacterReceived now char s

end Sys2Proof.Machine
end

