-- ==== Sys2Proof/Machine/Step.lean ====
section
/-! DEFINITION. One step of the part: the command at the front of its queue, or one microsecond of idling. -/

namespace Sys2Proof.Machine

/-- An idle step (R51, log 1): the capture timebase advances by one while the part has power. -/
def idleStep (s : State) : State :=
  if s.powered then { s with ylu := { s.ylu with timebase := s.ylu.timebase + 1 } } else s

/-- One step: the command at the front of the queue acts on the state with the queue's rest; with an empty queue the
part idles. -/
def step (s : State) : Host.Outcome State Fault Refusal :=
  match s.pending with
  | [] => .next (idleStep s)
  | i :: rest => exec i { s with pending := rest }

/-- The state with the command a table word spells put at the front of its queue; no word spells one. -/
def State.withFetchWord (s : State) (nbits w : Nat) : State :=
  match decodeTableWord nbits w with
  | some i => { s with pending := i :: s.pending }
  | none => s

end Sys2Proof.Machine
end

