-- ==== Sys2Proof/Safety.lean ====
section
/-! DEFINITION. What counts as a safe state of the part, and the words the statements use: a part ready for a
directive, and what a command leaves around its effect. -/

namespace Sys2Proof.Machine

/-! ## Words for statements -/

/-- The part has power and its power-on check has ended. -/
def State.awake (s : State) : Prop := s.powered = true ∧ s.stc.checking = false

/-- The part is awake and its directive queue is empty, so that a directive is judged as it arrives (R195). -/
def State.ready (s : State) : Prop := s.awake ∧ s.tli.directives = [] ∧ s.tli.executing = false

/-- The part is awake and no directive can be begun: the directive queue is empty, or a directive holds it (R195), others
waiting behind it or none. A command that answers no directive then has its own effect and no other. -/
def State.calm (s : State) : Prop := s.awake ∧ (s.tli.directives = [] ∨ s.tli.executing = true)

/-- The part is awake and a directive has begun work that holds the directive queue (R195). -/
def State.held (s : State) (ref : Byte) (d : Directive) : Prop :=
  s.awake ∧ s.tli.directives = [⟨ref, d⟩] ∧ s.tli.executing = true

/-- A state in which the directive that held the queue has left it. -/
def freed (s : State) : State := { s with tli := { s.tli with directives := [], executing := false } }

/-- The command a directive is when it arrives with a reference byte (log 4). -/
def directiveRow (now : Stamp) (ref : Byte) : Directive → Instr
  | .start => .start now ref
  | .halt => .halt now ref
  | .restart => .restart now ref
  | .putSite block => .putSite now ref block
  | .readSite => .readSite now ref
  | .lineTest => .lineTest now ref
  | .readNode node clear => .readNode now ref node clear
  | .zeroDeck deck => .zeroDeck now ref deck
  | .readWeight => .readWeight now ref
  | .setStream interval mirror => .setStream now ref interval mirror
  | .putVehicle tag cls present tare allowed blocked => .putVehicle now ref tag cls present tare allowed blocked
  | .dropVehicle tag => .dropVehicle now ref tag
  | .clearVehicles => .clearVehicles now ref
  | .readVehicle tag => .readVehicle now ref tag
  | .putClass number filled fields => .putClass now ref number filled fields
  | .readClass number => .readClass now ref number
  | .putHoldMask mask salt => .putHoldMask now ref mask salt
  | .identify tag kind onePass => .identify now ref tag kind onePass
  | .releaseHold passage reason => .releaseHold now ref passage reason
  | .abandon passage => .abandon now ref passage
  | .releaseTicket number => .releaseTicket now ref number
  | .fetchTicket number => .fetchTicket now ref number
  | .readTransaction tag => .readTransaction now ref tag
  | .purgeTransaction tag => .purgeTransaction now ref tag
  | .enterCal => .enterCal now ref
  | .setParam identifier place value => .setParam now ref identifier place value
  | .readParam identifier place selection => .readParam now ref identifier place selection
  | .commitCal => .commitCal now ref
  | .leaveCal => .leaveCal now ref
  | .readTrail start => .readTrail now ref start
  | .openAudit => .openAudit now ref
  | .capturePoint target declared => .capturePoint now ref target declared
  | .checkReference cell => .checkReference now ref cell
  | .closeAudit => .closeAudit now ref
  | .abortAudit => .abortAudit now ref
  | .setClock fields => .setClock now ref fields
  | .readStatus => .readStatus now ref

/-- A state as a command taken at `now` leaves it when nothing waits in the directive queue: the timebase reads `now` and
the outputs follow the conditions (R51, R61). -/
def taken (now : Stamp) (s : State) : State := refreshLights (atTime now s)

/-- A state as an answered directive leaves it: the reply is offered, and the rest as `taken` (R196). -/
def replied (now : Stamp) (ref code : Byte) (status : Status) (result : Result) (s : State) : State :=
  taken now (replyTo ref code status result s)

/-- A state as a directive that holds the queue leaves it (R195). -/
def holding (now : Stamp) (ref : Byte) (d : Directive) (s : State) : State :=
  taken now { s with tli := { s.tli with directives := [⟨ref, d⟩], executing := true } }

/-! ## Invariants -/

/-- The outputs follow the conditions of their owners (R60, R61, R62): while the part is awake, ENTRY_GREEN is asserted
exactly when the eight conditions of R60 hold, and EXIT_GREEN and EXIT_BARRIER exactly when the passage is in DONE with
an empty hold set or in LEAVING. -/
def State.lightsFollow (s : State) : Prop :=
  s.awake →
    s.ylu.conditions = s.lightConditions ∧
    (s.ylu.entryGreen = true ↔
      s.rnc.runState = .run ∧ s.reasonSet = [] ∧ s.cck.isSet = true ∧ s.vfu.session = none ∧ s.clu.staged = none ∧
      s.psu.passage = none ∧ (s.ticketsUsable = true ∧ s.fillSlotPosted = false) ∧ s.stc.fault = false) ∧
    (s.ylu.exitGreen = true ↔
      ∃ p, s.psu.passage = some p ∧ (p.state = .done ∧ p.holds = [] ∨ p.state = .leaving)) ∧
    s.ylu.exitBarrier = s.ylu.exitGreen

/-- The queues of the terminal link hold what they can hold, and an idle transmitter leaves nothing waiting (R195, R198,
R199, R200). -/
def State.linkFits (s : State) : Prop :=
  s.tli.directives.length ≤ 4 ∧ s.tli.classA.length ≤ 24 ∧
  (s.tli.sending = none → s.tli.classA = [] ∧ s.tli.weightSlot = none ∧ s.tli.sampleSlot = none)

/-- The number of open transactions equals the FIRST count minus the SECOND count minus the purge count (R133). -/
def State.balanced (s : State) : Prop :=
  s.stc.store.transaction.table.length + s.stc.store.transaction.secondCount + s.stc.store.transaction.purgeCount =
    s.stc.store.transaction.firstCount

/-- A deck's working zero lies within Max × 20 g of its initial zero (R39). -/
def Deck.zeroWithin (c : CalSet) (d : Deck) : Prop :=
  ∀ initial, d.initialZero = some initial → (d.zero - initial).natAbs ≤ c.maxLoad * 20

end Sys2Proof.Machine
end

