-- ==== Sys2Proof/Certificates/Slice0/Obligations.lean ====
section
/-! DEFINITION. The statements for the provers, each formalising what the manual says of the part as a whole or of a family
of its commands. `taken`, `replied` and `holding` (Safety) say what surrounds a command's own effect; everything a statement
does not name is as it was. -/

open Sys2Proof Sys2Proof.Machine

/-! ## The machine as a whole -/

/-- The host's rule for a block: a step takes the command at the front of the queue and runs it with the queue's rest. -/
def Obligations.StepRunsFrontCommand : Prop :=
  ∀ (c : Instr) (rest : List Instr) (s : State), s.pending = c :: rest → step s = exec c { s with pending := rest }

/-- R51 with log 1: an idle step of a powered part is one count of the capture timebase, which wraps, and nothing else; a part
without power stands still. -/
def Obligations.IdleStepCountsTimebase : Prop :=
  ∀ s : State, s.pending = [] →
    (s.powered = true → step s = .next { s with ylu := { s.ylu with timebase := s.ylu.timebase + 1#32 } }) ∧
    (s.powered = false → step s = .next s)

/-- The reset tables of every chapter (R21, R50, R64, R88, R102, R128, R203, R207, R211) and the factory store (R155, R212), at
the reset state chosen by log 5. -/
def Obligations.ResetState : Prop :=
  let s := State.reset
  (s.rnc.runState = .halted ∧ s.rnc.warmupCount = 0 ∧ s.rnc.site = .default) ∧
  (s.cck.time = ⟨2000, 1, 1, 0, 0, 0⟩ ∧ s.cck.isSet = false) ∧
  (s.ylu.timebase = 0 ∧ s.ylu.entryGreen = false ∧ s.ylu.exitGreen = false ∧ s.ylu.exitBarrier = false) ∧
  (∀ i : YardInput, (s.ylu.filter i).accepted = none ∧ (s.ylu.filter i).candidate = none ∧ (s.ylu.filter i).last = none ∧
    (s.ylu.filter i).chatter = 0) ∧
  (s.clc.line = .normal ∧ s.clc.scanNumber = 0 ∧ s.clc.scanTimer = none ∧ s.clc.scan = none ∧ s.clc.scanPending = false) ∧
  (∀ n, 1 ≤ n → n ≤ 16 → s.clc.node n = ⟨.unassigned, 0, none, 0, none, .normal, true⟩) ∧
  (∀ i, i < 4 → s.wge.deck i = none) ∧ (s.wge.latest = none ∧ s.wge.streamCount = 0) ∧
  (s.axm.checking = false ∧ s.axm.pairing = none ∧ s.axm.queue = [] ∧ s.axm.list = [] ∧ s.axm.pad = .unknown) ∧
  (s.vtb.vehicles = [] ∧ s.vtb.classes = List.replicate 16 none ∧ s.vtb.mask = 0 ∧ s.vtb.salt = 0) ∧
  (s.psu.passage = none ∧ s.psu.counter = 0 ∧ s.psu.captureTimer = none) ∧
  (s.clu.staged = none ∧ s.vfu.session = none ∧ s.vfu.zeroLimitPending = false) ∧
  (s.tli.directives = [] ∧ s.tli.classA = [] ∧ s.tli.weightSlot = none ∧ s.tli.sampleSlot = none ∧ s.tli.sending = none ∧
    s.tli.interval = 5 ∧ s.tli.mirror = false ∧ s.tli.overflow = false ∧ s.tli.badFrames = 0) ∧
  (s.stc.queue = [] ∧ s.stc.fault = false ∧ s.stc.store.reasons = [.neverVerified]) ∧
  (s.stc.store.ticket.next = 1 ∧ s.stc.store.ticket.ring = List.replicate 32 none ∧ s.stc.store.ticket.fill = 0) ∧
  (s.stc.store.transaction.table = [] ∧ s.counters = ⟨0, 0, 0⟩) ∧
  (s.committed.maxLoad = 60000 ∧ s.committed.division = 20 ∧ s.committed.filterLength = 4 ∧ s.committed.stabilityWindow = 8 ∧
    s.committed.motionBand = 2 ∧ s.committed.zeroTrackWindow = 50 ∧ s.committed.warmupLength = 256 ∧
    s.committed.padDeck = false ∧ s.committed.pollList = [] ∧ s.stc.store.calibration.count = 0) ∧
  s.pending = []

/-- The four invariants below hold in the reset state. -/
def Obligations.InvariantsHoldAtReset : Prop :=
  State.reset.lightsFollow ∧ State.reset.linkFits ∧ State.reset.balanced ∧
    ∀ i d, i < 4 → State.reset.wge.deck i = some d → d.zeroWithin State.reset.setInUse

/-- R60, R62: in every state a step can lead to, the three outputs are the levels the conditions of their owners give. -/
def Obligations.LightsFollowAtEveryStep : Prop :=
  ∀ s t : State, s.lightsFollow → step s = .next t → t.lightsFollow

/-- R195, R198, R199, R200: the queues of the terminal link never hold more than they can, and an idle transmitter leaves no
frame waiting. -/
def Obligations.LinkFitsAtEveryStep : Prop :=
  ∀ s t : State, s.linkFits → step s = .next t → t.linkFits

/-- R133: the open transactions are the FIRST count less the SECOND count less the purge count, over every step, power loss and
power-on included. -/
def Obligations.BalancedAtEveryStep : Prop :=
  ∀ s t : State, s.balanced → step s = .next t → t.balanced

/-- R39: no step takes a working zero further than Max × 20 g from its initial zero, Max being that of the set in use. -/
def Obligations.ZeroWithinAtEveryStep : Prop :=
  ∀ s t : State, (∀ i d, i < 4 → s.wge.deck i = some d → d.zeroWithin s.setInUse) → step s = .next t →
    ∀ i d, i < 4 → t.wge.deck i = some d → d.zeroWithin t.setInUse

/-- R212, R213, R214: no command but the completion of a store update changes anything in the nonvolatile store; loss of power,
power-on, RESTART and a failed update leave it whole. -/
def Obligations.StoreChangesOnlyByUpdates : Prop :=
  ∀ (c : Instr) (s t : State), (∀ now, c ≠ .storeUpdateComplete now) → exec c s = .next t → t.stc.store = s.stc.store

/-- R123, R135, R152: the conditions under which a passage's ticket request is accepted, and the reason of the first check that refuses
it. R134, R137, R138, R139, R141: the ticket composed at the acceptance with its type, net and flags, the change of the open transaction
table, and the update handed to the Store Controller. -/
def Obligations.TicketRequestAccepted : Prop :=
  (∀ (s : State) (p : Passage),
    requestOutcome s p = .accepted ↔
      p.state = .captured ∧ p.intruder = false ∧ s.rnc.runState = .run ∧
      (∀ r, r ∈ p.holds → r = .probe ∨ r = .overload ∨ r = .unstable) ∧
      s.stc.fault = false ∧ s.reasonSet = [] ∧
      (s.stc.damaged.ticket = false ∧ s.stc.damaged.transaction = false ∧ s.stc.store.ticket.next ≠ 0) ∧
      s.fillSlotPosted = false ∧
      ∃ i, p.identity = some i ∧
        ((∃ e ∈ s.stc.store.transaction.table, e.tag = i.tag) ∨
          (i.onePass = true ∧ i.presetAllowed = true ∧ i.tare ≠ none) ∨ s.stc.store.transaction.table.length < 64)) ∧
  (∀ (s : State) (p : Passage) (i : Identity), p.identity = some i →
    let made := p.state = .captured ∧ p.intruder = false ∧ s.rnc.runState = .run ∧
      ∀ r, r ∈ p.holds → r = .probe ∨ r = .overload ∨ r = .unstable
    let usable := s.stc.fault = false ∧ s.stc.damaged.ticket = false ∧ s.stc.damaged.transaction = false ∧
      s.stc.store.ticket.next ≠ 0
    (¬ made → requestOutcome s p = .notMade) ∧
    (made → ¬ usable → requestOutcome s p = .refused .storeFault) ∧
    (made → usable → s.reasonSet ≠ [] → requestOutcome s p = .refused .notVerified) ∧
    (made → usable → s.reasonSet = [] → s.fillSlotPosted = true → requestOutcome s p = .refused .ringBlocked) ∧
    (made → usable → s.reasonSet = [] → s.fillSlotPosted = false → (∀ e ∈ s.stc.store.transaction.table, e.tag ≠ i.tag) →
      i.onePass = false ∨ i.presetAllowed = false ∨ i.tare = none → 64 ≤ s.stc.store.transaction.table.length →
      requestOutcome s p = .refused .tableFull)) ∧
  (∀ (s : State) (p : Passage) (i : Identity) (c : Capture),
    let entry := findOpen i.tag s.stc.store.transaction.table
    let ticket (type : TicketType) (kind : TransactionKind) (first : Option FirstPass) (source : Option TareSource) (net : Option Int)
        (changed : Bool) : Ticket :=
      { number := s.stc.store.ticket.next, time := s.cck.time, calCount := c.calCount
        body := .weighing
          { type := type, tag := i.tag, kind := kind, weight := c.weight, firstPass := first, tareSource := source, net := net
            axles := p.axles.map fun a => a.summary
            passage := p.number
            flags :=
              { negativeNet := net.any fun n => decide (n < 0)
                generationChanged := changed
                axleOver := p.axles.any fun a => decide (a.summary.verdict = .exceeded)
                grossOver := p.axles.any fun a => a.grossOver
                axleCount := p.axles.any fun a => a.axleCountFlag
                probe := decide (.probe ∈ p.holds)
                runThrough := p.runThrough } } }
    (∀ e, entry = some e →
      composeTicket s p i c =
        ticket .second e.kind (some ⟨e.firstWeight, e.firstNumber, e.firstTime⟩) (some .weighed)
          (some (if e.kind = .receival then e.firstWeight - c.weight else c.weight - e.firstWeight))
          (decide (e.calCount ≠ c.calCount)) ∧
      tableChange s p i c = .remove i.tag) ∧
    (∀ tare, entry = none → i.onePass = true → i.presetAllowed = true → i.tare = some tare →
      composeTicket s p i c = ticket .onePass i.kind none (some .preset) (some (c.weight - tare)) false ∧
      tableChange s p i c = .keep) ∧
    (entry = none → i.onePass = false ∨ i.presetAllowed = false ∨ i.tare = none →
      composeTicket s p i c = ticket .first i.kind none none none false ∧
      tableChange s p i c = .insert
        { tag := i.tag, kind := i.kind, firstNumber := s.stc.store.ticket.next, firstWeight := c.weight, firstTime := c.time
          calCount := c.calCount, verdict := p.axles.map fun a => a.summary.verdict }) ∧
    (p.identity = some i → p.capture = some c → s.stc.fault = false →
      let p' : Passage := { p with state := .issuing }
      issueTicket p s =
        offer (.passage { after := some .issuing, before := some .captured, cause := .issueStarted, record := p', stamp := none })
          { s with
            psu := { s.psu with passage := some p' }
            stc := { s.stc with
              queue := s.stc.queue ++ [.ticket (composeTicket s p i c) (tableChange s p i c) (some p.number)] } }))

/-- 00 "Rounding": the quotient is the nearest integer, and a half goes away from zero. What is rounded from it in 02: the corrected cell
weight with its clamp and the deck's OVER mark (R25, R26), an indication (R41, R42), and the range judged from it (R43). -/
def Obligations.RoundingIsNearest : Prop :=
  (∀ (n : Int) (m : Nat), 0 < m →
    2 * (n - m * roundDiv n m).natAbs ≤ m ∧
    (2 * (n - m * roundDiv n m).natAbs = m → n.natAbs < (m * roundDiv n m).natAbs)) ∧
  (∀ (c : CalSet) (x : CellSample) (rest : List CellSample),
    let k := c.cell x.node
    let w := roundDiv ((x.count - k.offset) * k.gain * k.corner) 2147483648
    let clamped : Int := if 2000000000 < w then 2000000000 else if w < -2000000000 then -2000000000 else w
    deckSum c [] = 0 ∧ deckOver c [] = false ∧
    deckSum c (x :: rest) = clamped + deckSum c rest ∧
    (deckOver c (x :: rest) = true ↔ x.overRange = true ∨ 2000000000 < w.natAbs ∨ deckOver c rest = true)) ∧
  (∀ (d : Nat) (grams : Int), indicate d grams 1 = d * roundDiv grams (1000 * d)) ∧
  (∀ (c : CalSet) (decks : List DeckView) (weight : Int),
    bridgeRange c decks weight =
      if (∃ v ∈ decks, v.overFlag = true) ∨ (c.maxLoad : Int) + 9 * c.division < weight then .overRange
      else if weight < -20 * (c.division : Int) then .underRange
      else .inRange)

/-! ## The terminal link -/

/-- R196, R204: a well-formed directive laid out as a payload is judged to be that directive with its reference. -/
def Obligations.DirectivePayloadRoundTrip : Prop :=
  ∀ (ref : Byte) (d : Directive), d.wellFormed = true → judgePayload (encodeDirective ref d) = .directive ref d

/-- R193, R194: a directive frame whose characters arrive in HUNT acts as the arrival of its directive; a frame whose CRC differs or whose
TYPE is not DIRECTIVE is discarded and counted; a payload with an unknown code is answered UNKNOWN_DIRECTIVE, and one with a wrong length
MALFORMED, a payload of one byte with reference 00h (log 20). -/
def Obligations.DirectiveFrameReceived : Prop :=
  (∀ (s : State) (now : Stamp) (ref : Byte) (d : Directive), s.tli.framer = .hunt → d.wellFormed = true →
    exec (.frameReceived now ((envelope 0x01 (encodeDirective ref d)).map fun b => ⟨b, true⟩)) s =
      exec (directiveRow now ref d) s) ∧
  (∀ (s : State) (now : Stamp) (type hi lo : Byte) (payload : List Byte), s.calm → s.tli.framer = .hunt →
    1 ≤ payload.length → payload.length ≤ 250 →
    [hi, lo] ≠ fieldBytes (crc16 (BitVec.ofNat 8 payload.length :: type :: payload)) 2 →
    exec (.frameReceived now
        ((0xA5 :: BitVec.ofNat 8 payload.length :: type :: (payload ++ [hi, lo])).map fun b => ⟨b, true⟩)) s =
      .next (taken now { s with tli := { s.tli with badFrames := if s.tli.badFrames < 65535 then s.tli.badFrames + 1 else s.tli.badFrames } })) ∧
  (∀ (s : State) (now : Stamp) (type : Byte) (payload : List Byte), s.calm → s.tli.framer = .hunt → type ≠ 0x01 →
    1 ≤ payload.length → payload.length ≤ 250 →
    exec (.frameReceived now ((envelope type payload).map fun b => ⟨b, true⟩)) s =
      .next (taken now { s with tli := { s.tli with badFrames := if s.tli.badFrames < 65535 then s.tli.badFrames + 1 else s.tli.badFrames } })) ∧
  (∀ (s : State) (now : Stamp) (ref code : Byte) (rest : List Byte), s.calm → s.tli.framer = .hunt → rest.length ≤ 248 →
    let run := exec (.frameReceived now ((envelope 0x01 (code :: ref :: rest)).map fun b => ⟨b, true⟩)) s
    (code = 0 ∨ 0x25 < code.toNat → run = .next (replied now ref code .unknownDirective .nothing s)) ∧
    (1 ≤ code.toNat → code.toNat ≤ 0x25 →
      (∀ d : Directive, d.wellFormed = true → d.code = code → d.params.length ≠ rest.length) →
      run = .next (replied now ref code .malformed .nothing s)) ∧
    exec (.frameReceived now ((envelope 0x01 [code]).map fun b => ⟨b, true⟩)) s =
      .next (replied now 0 code .malformed .nothing s))

/-- R193: what one character, or a gap longer than five character times, does to the framer. In HUNT only A5h with its stop bit
counts; in a frame, a gap, a missing stop bit or a LEN of 0 or above 250 discards it, and any other character short of the frame's end
joins it. The last character of a frame hands a DIRECTIVE frame on as the arrival of its directive, and discards one with a wrong CRC or
another TYPE. -/
def Obligations.FramerMoves : Prop :=
  (∀ (s : State) (now : Stamp) (c : LinkChar), s.calm →
      (s.tli.framer = .hunt → c.data = 0xA5 → c.stopOk = true →
        exec (.characterReceived now c) s = .next (taken now { s with tli := { s.tli with framer := .inFrame [] } })) ∧
      (s.tli.framer = .hunt → c.data ≠ 0xA5 ∨ c.stopOk = false → exec (.characterReceived now c) s = .next (taken now s)) ∧
      (∀ bytes, s.tli.framer = .inFrame bytes →
        (c.stopOk = false ∨ bytes = [] ∧ (c.data = 0 ∨ 250 < c.data.toNat)) →
        exec (.characterReceived now c) s =
          .next (taken now { s with tli := { s.tli with
            framer := .hunt
            badFrames := if s.tli.badFrames < 65535 then s.tli.badFrames + 1 else s.tli.badFrames } })) ∧
      (s.tli.framer = .inFrame [] → c.stopOk = true → 1 ≤ c.data.toNat → c.data.toNat ≤ 250 →
        exec (.characterReceived now c) s = .next (taken now { s with tli := { s.tli with framer := .inFrame [c.data] } })) ∧
      (∀ len rest, s.tli.framer = .inFrame (len :: rest) → c.stopOk = true → 1 ≤ len.toNat → len.toNat ≤ 250 →
        rest.length + 1 < len.toNat + 3 →
        exec (.characterReceived now c) s =
          .next (taken now { s with tli := { s.tli with framer := .inFrame (len :: rest ++ [c.data]) } })) ∧
      (∀ len rest, s.tli.framer = .inFrame (len :: rest) → c.stopOk = true → 1 ≤ len.toNat → len.toNat ≤ 250 →
        rest.length + 1 = len.toNat + 3 →
        let core := len :: rest.take (len.toNat + 1)
        rest.head? ≠ some 0x01 ∨ len :: (rest ++ [c.data]) ≠ core ++ fieldBytes (crc16 core) 2 →
        exec (.characterReceived now c) s =
          .next (taken now { s with tli := { s.tli with
            framer := .hunt
            badFrames := if s.tli.badFrames < 65535 then s.tli.badFrames + 1 else s.tli.badFrames } }))) ∧
  (∀ (s : State) (now : Stamp) (ref hi lo : Byte) (d : Directive), s.powered = true → d.wellFormed = true →
      let core := BitVec.ofNat 8 (encodeDirective ref d).length :: 0x01 :: encodeDirective ref d
      fieldBytes (crc16 core) 2 = [hi, lo] → s.tli.framer = .inFrame (core ++ [hi]) →
      exec (.characterReceived now ⟨lo, true⟩) s =
        exec (directiveRow now ref d) { s with tli := { s.tli with framer := .hunt } }) ∧
  (∀ (s : State) (now : Stamp), s.calm →
      (s.tli.framer = .hunt → exec (.frameGapTimeout now) s = .next (taken now s)) ∧
      (∀ bytes, s.tli.framer = .inFrame bytes →
        exec (.frameGapTimeout now) s =
          .next (taken now { s with tli := { s.tli with
            framer := .hunt
            badFrames := if s.tli.badFrames < 65535 then s.tli.badFrames + 1 else s.tli.badFrames } })))

/-- R198, R200: at the end of a frame the arbiter takes the oldest class A frame, then the WEIGHT slot, then the SAMPLE slot, and with
nothing present the transmitter is idle; a class A frame offered meanwhile joins fewer than 24 at the newest end, or is dropped and sets
the report-overflow flag. -/
def Obligations.FramesAreQueuedAndChosen : Prop :=
  (∀ (s : State) (now : Stamp), s.calm →
      (∀ f rest, s.tli.classA = f :: rest →
        exec (.transmitFrameEnd now) s = .next (taken now { s with tli := { s.tli with classA := rest, sending := some f } })) ∧
      (∀ w, s.tli.classA = [] → s.tli.weightSlot = some w →
        exec (.transmitFrameEnd now) s =
          .next (taken now { s with tli := { s.tli with weightSlot := none, sending := some (.weight w) } })) ∧
      (∀ m, s.tli.classA = [] → s.tli.weightSlot = none → s.tli.sampleSlot = some m →
        exec (.transmitFrameEnd now) s =
          .next (taken now { s with tli := { s.tli with sampleSlot := none, sending := some (.sample m) } })) ∧
      (s.tli.classA = [] → s.tli.weightSlot = none → s.tli.sampleSlot = none →
        exec (.transmitFrameEnd now) s = .next (taken now { s with tli := { s.tli with sending := none } }))) ∧
  (∀ (s : State) (f g : Frame), s.tli.sending = some g →
      (s.tli.classA.length < 24 → offer f s = { s with tli := { s.tli with classA := s.tli.classA ++ [f] } }) ∧
      (24 ≤ s.tli.classA.length → offer f s = { s with tli := { s.tli with overflow := true } }))

/-- R194, R195: a directive that arrives while another holds the queue waits at its newest end, unheard, or is answered QUEUE_FULL
when the queue holds four; one whose payload has the wrong length is answered MALFORMED. -/
def Obligations.ArrivalAtBusyQueue : Prop :=
  ∀ (s : State) (now : Stamp) (ref : Byte) (d : Directive), s.awake → s.tli.executing = true →
    (d.wellFormed = true → s.tli.directives.length < 4 →
      exec (directiveRow now ref d) s =
        .next (taken now { s with tli := { s.tli with directives := s.tli.directives ++ [⟨ref, d⟩] } })) ∧
    (d.wellFormed = true → 4 ≤ s.tli.directives.length →
      exec (directiveRow now ref d) s = .next (replied now ref d.code .queueFull .nothing s)) ∧
    (d.wellFormed = false → exec (directiveRow now ref d) s = .next (replied now ref d.code .malformed .nothing s))

/-! ## Run control, power, the calendar -/

/-- R207, R20, R34, R49: START in HALTED enters WARMUP with fresh node records, every configured deck in NO_ZERO, and the scan timer
loaded; in any other state, or with the calibration area damaged, it is refused. That RUN_STATE_CHANGED stands before the reply is log 10,
and that a reloaded deck is not stable at once is log 14. -/
def Obligations.StartEntersWarmup : Prop :=
  ∀ (s : State) (now : Stamp) (ref : Byte), s.ready →
    (s.rnc.runState ≠ .halted → exec (.start now ref) s = .next (replied now ref 0x01 .wrongState .nothing s)) ∧
    (s.rnc.runState = .halted → s.stc.damaged.calibration = true →
      exec (.start now ref) s = .next (replied now ref 0x01 .noCalibration .nothing s)) ∧
    (s.rnc.runState = .halted → s.stc.damaged.calibration = false →
      exec (.start now ref) s =
        .next (replied now ref 0x01 .done .nothing (offer (.event now (.runStateChanged .halted .warmup))
          { s with
            clc := { s.clc with
              nodes := s.clc.nodes.mapIdx fun i r =>
                { r with
                  state := if i + 1 ∈ s.committed.pollList then .searching else .unassigned
                  missed := 0
                  lastSequence := none }
              scan := none
              scanPending := false
              attempt := none
              scanTimer := some now }
            wge := { s.wge with
              decks := s.wge.decks.map (Option.map fun d =>
                { d with
                  initialZero := none, filter := [], stability := [], value := none, stable := false, state := .noZero
                  hold := 0, trackRun := 0, faulted := false, overFlag := false }) }
            rnc := { s.rnc with runState := .warmup, warmupCount := 0, warmupLength := s.committed.warmupLength } })))

/-- R208, R16, R127, R191: HALT in WARMUP or RUN stops the scan, ends calibration mode and an audit; with no update in flight and no
node to poll it reaches HALTED at once, with an update in flight it holds in HALTING, and with none it polls the first stray node. That
in BREAK no stray node is waited for is log 26, that the frames stand before the reply is log 10, and that PASSAGE HALT stands before
RUN_STATE_CHANGED is read from chapter 11's worked example (log 31). -/
def Obligations.HaltStopsTheRun : Prop :=
  ∀ (s : State) (now : Stamp) (ref : Byte), s.ready →
    let strays := ((List.range 16).map (· + 1)).filter fun n => (s.clc.node n).inReference
    let quiet (nodes : List Nat) (next : RunState) : State :=
      { endCalibration s with
        clc := { s.clc with
          scanTimer := none, scan := none, scanPending := false, attempt := none, haltTodo := nodes
          nodes := s.clc.nodes.map fun r => if r.inReference then { r with mode := .normal, delivered := false } else r }
        vfu := { s.vfu with session := none }
        rnc := { s.rnc with warmupCount := 0, runState := next } }
    (s.rnc.runState = .halted ∨ s.rnc.runState = .halting →
      exec (.halt now ref) s = .next (replied now ref 0x02 .wrongState .nothing s)) ∧
    (s.rnc.runState = .warmup ∨ s.rnc.runState = .run → s.stc.queue = [] → strays = [] ∨ s.clc.line = .broken →
      s.psu.passage = none →
      exec (.halt now ref) s =
        .next (replied now ref 0x02 .done .nothing (offer (.event now (.runStateChanged s.rnc.runState .halted))
          { quiet [] .halted with psu := { s.psu with captureTimer := none } }))) ∧
    (∀ p, s.rnc.runState = .warmup ∨ s.rnc.runState = .run → s.stc.queue = [] → strays = [] ∨ s.clc.line = .broken →
      s.psu.passage = some p →
      exec (.halt now ref) s =
        .next (replied now ref 0x02 .done .nothing
          (offer (.event now (.runStateChanged s.rnc.runState .halted))
            (offer (.passage { after := none, before := some p.state, cause := .halt, record := p, stamp := none })
            { quiet [] .halted with psu := { s.psu with passage := none, captureTimer := none }, axm := .cleared })))) ∧
    (s.rnc.runState = .warmup ∨ s.rnc.runState = .run → s.stc.queue ≠ [] →
      exec (.halt now ref) s =
        .next (holding now ref .halt (offer (.event now (.runStateChanged s.rnc.runState .halting)) (quiet strays .halting)))) ∧
    (∀ n rest, s.rnc.runState = .warmup ∨ s.rnc.runState = .run → s.stc.queue = [] → strays = n :: rest → s.clc.line = .normal →
      exec (.halt now ref) s =
        .next (holding now ref .halt (offer (.event now (.runStateChanged s.rnc.runState .halting))
          { quiet rest .halting with
            clc := { (quiet rest .halting).clc with attempt := some { node := n, number := 1, command := .normal } } })))

/-- R207, R208: the run states that are reached by themselves: RUN at the handoff that completes warm-up (as a row of its own: log 3), and
HALTED once no update and no NORMAL poll is left (as a row of its own: log 26), with the reply to the HALT that waited for it. PASSAGE
HALT stands before RUN_STATE_CHANGED as in chapter 11's worked example (log 31). Before that moment neither row is an occurrence
(log 2). -/
def Obligations.RunStateMovesOn : Prop :=
  (∀ (s : State) (now : Stamp), s.calm → s.rnc.runState = .warmup → s.rnc.warmupLength ≤ s.rnc.warmupCount + 1 →
    exec (.warmupEnd now) s =
      .next (taken now (offer (.event now (.runStateChanged .warmup .run))
        { s with rnc := { s.rnc with runState := .run, warmupCount := s.rnc.warmupCount + 1 } }))) ∧
  (∀ (s : State) (now : Stamp), s.calm → s.rnc.runState ≠ .warmup ∨ s.rnc.warmupCount + 1 < s.rnc.warmupLength →
    exec (.warmupEnd now) s = .next (taken now s)) ∧
  (∀ (s : State) (now : Stamp) (ref : Byte), s.held ref .halt → s.rnc.runState = .halting → s.stc.queue = [] →
    s.clc.attempt = none → s.clc.haltTodo = [] → s.psu.passage = none →
    exec (.haltingEnd now) s =
      .next (replied now ref 0x02 .done .nothing (offer (.event now (.runStateChanged .halting .halted))
        (freed { s with rnc := { s.rnc with runState := .halted }, psu := { s.psu with captureTimer := none } })))) ∧
  (∀ (s : State) (now : Stamp) (ref : Byte) (p : Passage), s.held ref .halt → s.rnc.runState = .halting → s.stc.queue = [] →
    s.clc.attempt = none → s.clc.haltTodo = [] → s.psu.passage = some p →
    exec (.haltingEnd now) s =
      .next (replied now ref 0x02 .done .nothing
        (offer (.event now (.runStateChanged .halting .halted))
          (offer (.passage { after := none, before := some p.state, cause := .halt, record := p, stamp := none })
          (freed { s with
            rnc := { s.rnc with runState := .halted }
            psu := { s.psu with passage := none, captureTimer := none }
            axm := .cleared }))))) ∧
  (∀ (s : State) (now : Stamp) (ref : Byte), s.held ref .halt → s.rnc.runState = .halting →
    s.stc.queue ≠ [] ∨ s.clc.attempt ≠ none ∨ s.clc.haltTodo ≠ [] → exec (.haltingEnd now) s = .next (taken now s))

/-- R209, R203 and the reset tables: RESTART puts every block in its restart state, keeps the site settings, tables, clock, stream
settings and the store with its queued updates, and answers as the first frame of the emptied queue with the number of directives
discarded behind it. A queued ticket update then has no passage to tell (log 17). -/
def Obligations.RestartResetsTheBlocks : Prop :=
  (∀ (s : State) (now : Stamp) (ref : Byte), s.ready →
    let fresh : State := { s with
      clc :=
        { Clc.powerOn with
          nodes := (List.range 16).map fun i =>
            { state := if s.stc.damaged.calibration = false ∧ (i + 1) ∈ s.committed.pollList then .searching else .unassigned
              missed := 0, lastError := none, errorCount := 0, lastSequence := none, mode := .normal, delivered := true } }
      wge :=
        { decks := (List.range 4).map fun i =>
            if s.stc.damaged.calibration = true ∨ (s.committed.deck i).mask = 0 then none
            else some (.fresh (s.committed.deck i).zeroCal)
          latest := none
          streamCount := 0 }
      ylu := { s.ylu with
        entryLoop := .settle s.ylu.entryLoop.raw now
        exitLoop := .settle s.ylu.exitLoop.raw now
        stripA := .settle s.ylu.stripA.raw now
        stripB := .settle s.ylu.stripB.raw now
        calSwitch := .settle s.ylu.calSwitch.raw now }
      axm := .cleared
      psu := { passage := none, counter := 0, captureTimer := none }
      clu := { staged := none, openingRecorded := false }
      vfu := { s.vfu with session := none }
      tli := { s.tli with
        badFrames := 0, classA := [], weightSlot := none, sampleSlot := none, overflow := false, scanOverrun := false }
      rnc := { s.rnc with runState := .halted, warmupCount := 0 }
      stc := { s.stc with queue := s.stc.queue.map fun u => match u with
        | .ticket t change _ => .ticket t change none
        | u => u } }
    let answered := replyTo ref 0x03 .done (.count 0) fresh
    exec (.restart now ref) s =
      .next (taken now (if s.rnc.runState = .halted then answered
        else offer (.event now (.runStateChanged s.rnc.runState .halted)) answered))) ∧
  (∀ (s : State) (ref : Byte) (waiting : List Queued), s.tli.directives = ⟨ref, .restart⟩ :: waiting →
    let alone : State := { s with tli := { s.tli with directives := [⟨ref, .restart⟩] } }
    (restart s).tli.directives = [] ∧ (restart s).tli.executing = false ∧
    (∀ g, s.tli.sending = some g →
      (restart s).tli.classA = .reply ⟨ref, 0x03, .done, .count waiting.length⟩ ::
        (if s.rnc.runState = .halted then [] else [.event s.ylu.timebase (.runStateChanged s.rnc.runState .halted)]) ∧
      (restart s).tli.sending = some g) ∧
    { restart s with tli := s.tli } = { restart alone with tli := s.tli })

/-- R210: PUT_SITE replaces the whole block in HALTED when every field lies in its range, names the first field that does not, and
is refused in any other run state. The fields, their bytes and their ranges are those of the table of site settings. An input that is
still settling is left to its SETTLING_COMPLETE, also where its interval has lasted the new filter time (the model's choice: log 42). -/
def Obligations.PutSiteReplacesTheBlock : Prop :=
  (∀ (s : State) (now : Stamp) (ref : Byte) (block : List Byte), s.ready →
    (block.length ≠ 25 → exec (.putSite now ref block) s = .next (replied now ref 0x04 .malformed .nothing s)) ∧
    (block.length = 25 → s.rnc.runState ≠ .halted →
      exec (.putSite now ref block) s = .next (replied now ref 0x04 .wrongState .nothing s)) ∧
    (∀ offset, block.length = 25 → s.rnc.runState = .halted → siteFlaw block = some offset →
      exec (.putSite now ref block) s = .next (replied now ref 0x04 .badValue (.siteOffset offset) s)) ∧
    (block.length = 25 → s.rnc.runState = .halted → siteFlaw block = none →
      (∀ i, i ≠ .calSwitch → (s.ylu.filter i).candidate = none) →
      exec (.putSite now ref block) s =
        .next (replied now ref 0x04 .done .nothing { s with rnc := { s.rnc with site := siteOf block } })) ∧
    (block.length = 25 → s.rnc.runState = .halted → siteFlaw block = none →
      ∃ t, exec (.putSite now ref block) s = .next t ∧ t.rnc = { s.rnc with site := siteOf block })) ∧
  (∀ block : List Byte, block.length = 25 →
    let b (i : Nat) : Nat := (block.getD i 0).toNat
    let w (i : Nat) : Nat := 256 * b i + b (i + 1)
    siteOf block =
      { scanPeriod := b 0, replyWindow := w 1, lostLimit := b 3, holdLimit := b 4, loopFilter := w 5, stripFilter := b 7
        stripSpacing := w 8, pairingWindow := w 10, speedLimit := w 12, padOn := w 14, padOff := w 16, trim := b 18
        minDwell := b 19, groupGap := w 20, captureTimeout := b 22, admitUnlisted := decide (b 23 = 1)
        overloadHold := decide (b 24 = 2) } ∧
    siteFlaw block =
      if ¬ (5 ≤ b 0 ∧ b 0 ≤ 200) then some 0
      else if ¬ (200 ≤ w 1 ∧ w 1 ≤ 5000) then some 1
      else if ¬ (2 ≤ b 3 ∧ b 3 ≤ 32) then some 3
      else if ¬ (b 4 ≤ 15) then some 4
      else if ¬ (20 ≤ w 5 ∧ w 5 ≤ 500) then some 5
      else if ¬ (2 ≤ b 7 ∧ b 7 ≤ 50) then some 7
      else if ¬ (200 ≤ w 8 ∧ w 8 ≤ 2000) then some 8
      else if ¬ (200 ≤ w 10 ∧ w 10 ≤ 5000) then some 10
      else if ¬ (500 ≤ w 12 ∧ w 12 ≤ 4000) then some 12
      else if ¬ (50 ≤ w 14 ∧ w 14 ≤ 2000) then some 14
      else if ¬ (20 ≤ w 16 ∧ w 16 ≤ 1990 ∧ w 16 < w 14) then some 16
      else if ¬ (b 18 ≤ 8) then some 18
      else if ¬ (3 ≤ b 19 ∧ b 19 ≤ 64) then some 19
      else if ¬ (1000 ≤ w 20 ∧ w 20 ≤ 4000) then some 20
      else if ¬ (10 ≤ b 22 ∧ b 22 ≤ 250) then some 22
      else if ¬ (b 23 = 1 ∨ b 23 = 2) then some 23
      else if ¬ (b 24 = 1 ∨ b 24 = 2) then some 24
      else none)

/-- R48, R210: READ_SITE and READ_WEIGHT are taken in every run state, answer the block in force and the latest published record, and
change nothing. -/
def Obligations.SiteAndWeightAreRead : Prop :=
  ∀ (s : State) (now : Stamp) (ref : Byte), s.ready →
    exec (.readSite now ref) s = .next (replied now ref 0x05 .done (.site s.rnc.site) s) ∧
    exec (.readWeight now ref) s = .next (replied now ref 0x09 .done (.weight s.wge.latest) s)

/-- R211: SET_CLOCK sets six fields that form a time of 2000 to 2099 and answers the time before it; the clock then counts seconds
with full carry, and stops with its flag cleared past the end of 2099. -/
def Obligations.ClockIsSetAndCounts : Prop :=
  (∀ (s : State) (now : Stamp) (ref : Byte) (c : ClockFields), s.ready →
    let y := c.year.toNat
    let m := c.month.toNat
    exec (.setClock now ref c) s = .next (
      if y ≤ 99 ∧ 1 ≤ m ∧ m ≤ 12 ∧ 1 ≤ c.day.toNat ∧
          c.day.toNat ≤ (if m = 2 then (if y % 4 = 0 then 29 else 28) else if m ∈ [4, 6, 9, 11] then 30 else 31) ∧
          c.hour.toNat ≤ 23 ∧ c.minute.toNat ≤ 59 ∧ c.second.toNat ≤ 59 then
        replied now ref 0x24 .done (.clockWas (if s.cck.isSet = true then some s.cck.time else none))
          { s with cck := { time := ⟨2000 + y, m, c.day.toNat, c.hour.toNat, c.minute.toNat, c.second.toNat⟩, isSet := true } }
      else replied now ref 0x24 .badValue .nothing s)) ∧
  (∀ (s : State) (now : Stamp), s.calm → s.cck.isSet = false → exec (.clockSecond now) s = .next (taken now s)) ∧
  (∀ (s : State) (now : Stamp), s.calm → s.cck.isSet = true →
    let t := s.cck.time
    let last := if t.month = 2 then (if t.year % 4 = 0 then 29 else 28) else if t.month ∈ [4, 6, 9, 11] then 30 else 31
    exec (.clockSecond now) s = .next (taken now { s with cck :=
      if t.second < 59 then { s.cck with time := { t with second := t.second + 1 } }
      else if t.minute < 59 then { s.cck with time := { t with second := 0, minute := t.minute + 1 } }
      else if t.hour < 23 then { s.cck with time := { t with second := 0, minute := 0, hour := t.hour + 1 } }
      else if t.day < last then { s.cck with time := { t with second := 0, minute := 0, hour := 0, day := t.day + 1 } }
      else if t.month < 12 then
        { s.cck with time := { t with second := 0, minute := 0, hour := 0, day := 1, month := t.month + 1 } }
      else if t.year < 2099 then
        { s.cck with time := { t with second := 0, minute := 0, hour := 0, day := 1, month := 1, year := t.year + 1 } }
      else { s.cck with isSet := false } }))

/-- R214, R215, R194: what the part holds at NPOR release, after the store check that follows, and without power; directives that arrive
during the check wait, and are executed once it has ended. POWER_ON is taken in every state (log 6), and the warm-up length before START
is 0 (log 5). The light conditions from NPOR release until the check ends, all failing, are the model's choice (log 52). -/
def Obligations.PowerAndStoreCheck : Prop :=
  (∀ (s : State) (rate1 rate0 : Bool) (levels : RawLevels),
    ∃ t, exec (.powerOn rate1 rate0 levels) s = .next t ∧
      t.powered = true ∧ t.stc.store = s.stc.store ∧ t.stc.queue = [] ∧ t.stc.checking = true ∧ t.stc.fault = false ∧
      t.rnc = { runState := .halted, warmupCount := 0, warmupLength := 0, site := .default } ∧
      t.cck = { time := ⟨2000, 1, 1, 0, 0, 0⟩, isSet := false } ∧ t.clc = .powerOn ∧ t.wge = .powerOn ∧ t.axm = .cleared ∧
      t.vtb = .powerOn ∧ t.psu = .cleared ∧ t.clu.staged = none ∧ t.vfu = { session := none, zeroLimitPending := false } ∧
      t.tli = .powerOn rate1 rate0 ∧ t.ylu = .powerOn levels ∧ t.pending = s.pending) ∧
  (∀ s : State, ∃ t, exec .powerLoss s = .next t ∧ t.powered = false ∧ t.stc.store = s.stc.store ∧ t.stc.queue = [] ∧
    t.pending = s.pending) ∧
  (∀ (s : State) (now : Stamp) (ref : Byte) (d : Directive), s.powered = true → s.stc.checking = true → d.wellFormed = true →
    s.tli.directives.length < 4 →
    exec (directiveRow now ref d) s =
      .next (atTime now { s with tli := { s.tli with directives := s.tli.directives ++ [⟨ref, d⟩] } })) ∧
  (∀ (s : State) (now : Stamp) (found : Areas), s.powered = true → s.stc.checking = true →
    let damaged := { found with ticket := found.ticket || s.stc.store.ticket.next == 0 }
    let checked : State := { s with
      clc :=
        { Clc.powerOn with
          nodes := (List.range 16).map fun i => .fresh (!found.calibration && decide ((i + 1) ∈ s.committed.pollList)) }
      wge :=
        { decks := (List.range 4).map fun i =>
            if found.calibration = true ∨ (s.committed.deck i).mask = 0 then none else some (.fresh (s.committed.deck i).zeroCal)
          latest := none
          streamCount := 0 }
      stc := { s.stc with
        damaged := damaged
        fault := damaged.calibration || damaged.status || damaged.ticket || damaged.transaction
        queue := []
        checking := false } }
    let done : State :=
      if checked.stc.fault = true then offer (.event now (.storeFault (.damaged damaged))) checked
      else if checked.reasonSet ≠ [] then checked
      else offer (.event now (.tradeStatusChanged true [] s.vfu.zeroLimitPending .powerOn)) checked
    exec (.storeCheckComplete now found) s = .next (finish (atTime now done)) ∧
    (s.tli.directives = [] → exec (.storeCheckComplete now found) s = .next (taken now done)))

/-- R202, R59, R60, R62, R152, R176, R201: READ_STATUS answers the part's state as it stands; the bad-frame count, the overflow flag and
the scan-overrun condition are cleared if the reply found room in the class A queue, and kept if it was dropped. What it carries of an
unusable ticket area, and the store case it shows, are log 37; the number of points without an audit session, 0, is log 53. -/
def Obligations.StatusIsRead : Prop :=
  ∀ (s : State) (now : Stamp) (ref : Byte), s.ready →
    let report := statusReport (taken now s)
    let answered := replyTo ref 0x25 .done (.status report) s
    let usable := s.stc.damaged.ticket = false ∧ s.stc.damaged.transaction = false ∧ s.stc.store.ticket.next ≠ 0
    (s.tli.classA.length < 24 →
      exec (.readStatus now ref) s =
        .next (taken now { answered with tli := { answered.tli with badFrames := 0, overflow := false, scanOverrun := false } })) ∧
    (24 ≤ s.tli.classA.length → exec (.readStatus now ref) s = .next (taken now answered)) ∧
    (report.rate1 = s.tli.rate1 ∧ report.rate0 = s.tli.rate0 ∧ report.badFrames = s.tli.badFrames ∧
      report.overflow = s.tli.overflow ∧ report.queued = s.tli.classA.length ∧
      report.interval = s.tli.interval ∧ report.mirror = s.tli.mirror ∧ report.scanOverrun = s.tli.scanOverrun ∧
      report.runState = s.rnc.runState ∧ report.clockSet = s.cck.isSet ∧ report.calibrationMode = s.clu.staged.isSome ∧
      report.line = s.clc.line ∧ report.timebase = now ∧ report.verified = s.reasonSet.isEmpty ∧ report.reasons = s.reasonSet ∧
      report.zeroLimitPending = s.vfu.zeroLimitPending ∧ report.auditOpen = s.vfu.session.isSome ∧
      (report.auditPoints = match s.vfu.session with
        | some session => session.points.length
        | none => 0) ∧
      report.passage = s.psu.passage ∧ report.passageCounter = s.psu.counter ∧ report.fill = s.stc.store.ticket.fill ∧
      report.slotFree = !s.fillSlotPosted ∧ report.counters = s.counters ∧
      report.storeCase = if ¬ usable then .unusable else if s.stc.fault = true then .writeFault else .clear) ∧
    (report.inputs = [YardInput.entryLoop, .exitLoop, .stripA, .stripB, .calSwitch].map fun i =>
      { accepted := (s.ylu.filter i).accepted, candidateOpen := (s.ylu.filter i).candidate.isSome, last := (s.ylu.filter i).last
        chatter := (s.ylu.filter i).chatter }) ∧
    (report.entryGreen = true ↔
      s.rnc.runState = .run ∧ s.reasonSet = [] ∧ s.cck.isSet = true ∧ s.vfu.session = none ∧ s.clu.staged = none ∧
      s.psu.passage = none ∧ usable ∧ s.fillSlotPosted = false ∧ s.stc.fault = false) ∧
    (report.exitGreen = true ↔ ∃ p, s.psu.passage = some p ∧ (p.state = .done ∧ p.holds = [] ∨ p.state = .leaving)) ∧
    report.exitBarrier = report.exitGreen ∧
    report.foremost =
      if s.stc.fault = true then .storeFault
      else if s.clc.line = .broken then .lineBreak
      else if (∃ d ∈ s.wge.decks, (d.map fun d => d.state) = some .fault) then .deckFault
      else if (∃ r ∈ s.clc.nodes, r.state = .lost) then .nodeLost
      else if s.reasonSet ≠ [] then .notVerified
      else if s.cck.isSet = false then .clockUnset
      else if usable ∧ s.fillSlotPosted = true then .ringBlocked
      else if s.tli.scanOverrun = true then .scanOverrun
      else .none

/-! ## The cell line -/

/-- R17: LINE_TEST holds the directive queue in HALTED and is refused elsewhere; its end answers the number of the 48 test characters
that did not come back as sent, a walking one in the first 24 and a walking zero in the last. That LINE_TEST_COMPLETE carries the
characters as they came back is log 28; without a test it is no occurrence (log 2). -/
def Obligations.LineTestCountsMismatches : Prop :=
  (∀ (s : State) (now : Stamp) (ref : Byte), s.ready →
    (s.rnc.runState ≠ .halted → exec (.lineTest now ref) s = .next (replied now ref 0x06 .wrongState .nothing s)) ∧
    (s.rnc.runState = .halted →
      exec (.lineTest now ref) s = .next (holding now ref .lineTest { s with clc := { s.clc with lineTest := true } }))) ∧
  (∀ (s : State) (now : Stamp) (ref : Byte) (back : List (Option CellChar)), s.held ref .lineTest → s.clc.lineTest = true →
    exec (.lineTestComplete now back) s =
      .next (replied now ref 0x06 .done
        (.lineTest ((List.range 48).countP fun i =>
          decide (back.getD i none ≠
            some ⟨if i < 24 then 1#8 <<< (i % 8) else ~~~(1#8 <<< (i % 8)), true, true⟩)))
        (freed { s with clc := { s.clc with lineTest := false } }))) ∧
  (∀ (s : State) (now : Stamp) (back : List (Option CellChar)), s.calm → s.clc.lineTest = false →
    exec (.lineTestComplete now back) s = .next (taken now s))

/-- R18: READ_NODE answers a node's record as it stands and, with the clear option, then clears its error count and last error kind;
an address outside 1 to 16 is refused. The clear option's byte is read as log 15 says. -/
def Obligations.NodeIsRead : Prop :=
  ∀ (s : State) (now : Stamp) (ref node clear : Byte), s.ready →
    (node.toNat = 0 ∨ 16 < node.toNat ∨ firstOrSecond clear = none →
      exec (.readNode now ref node clear) s = .next (replied now ref 0x07 .badValue .nothing s)) ∧
    (1 ≤ node.toNat → node.toNat ≤ 16 → firstOrSecond clear = some false →
      exec (.readNode now ref node clear) s = .next (replied now ref 0x07 .done (.node (s.clc.node node.toNat)) s)) ∧
    (1 ≤ node.toNat → node.toNat ≤ 16 → firstOrSecond clear = some true →
      exec (.readNode now ref node clear) s =
        .next (replied now ref 0x07 .done (.node (s.clc.node node.toNat))
          { s with clc :=
            s.clc.setNode node.toNat { s.clc.node node.toNat with errorCount := 0, lastError := none } }))

/-- R4, R5, R3, R13: an expiry of the scan timer begins the next scan with its first poll, or marks one pending with SCAN_OVERRUN, once;
in BREAK or with no node to poll the scan is over at once. Before the period has run the row is no occurrence (log 2). The poll list is
the nodes of the four masks, ascending. -/
def Obligations.ScanTimerBeginsScan : Prop :=
  (∀ (s : State) (now since : Stamp), s.calm → s.rnc.runState = .warmup ∨ s.rnc.runState = .run → s.clc.scanTimer = some since →
      let period := s.rnc.site.scanPeriod * 1000
      let timed : Clc := { s.clc with scanTimer := some (since + BitVec.ofNat 32 period) }
      let list := s.setInUse.pollList
      let begun : Clc := { timed with
        scanNumber := s.clc.scanNumber + 1#32
        scanPending := false
        nodes := s.clc.nodes.mapIdx fun i r =>
          if i + 1 ∈ list then
            if r.state = .unassigned then { r with state := .searching, missed := 0, lastSequence := none } else r
          else if r.state = .unassigned then r
          else { r with state := .unassigned, missed := 0, lastSequence := none } }
      ((now - since).toNat < period → exec (.scanTimerExpiry now) s = .next (taken now s)) ∧
      (∀ n rest, period ≤ (now - since).toNat → s.clc.scan = none → s.clc.line = .normal → list = n :: rest →
        exec (.scanTimerExpiry now) s =
          .next (taken now { s with clc := { begun with
            scan := some
              { number := s.clc.scanNumber + 1#32, todo := n :: rest, slots := (n :: rest).map fun n => (n, .awaiting), entries := []
                references := [] }
            attempt := some
              { node := n
                number := 1
                command := if (s.clc.node n).delivered then .sample
                  else if (s.clc.node n).mode = .reference then .reference else .normal } } })) ∧
      (period ≤ (now - since).toNat → s.clc.scan = none → s.clc.line = .broken ∨ list = [] → s.tli.directives.length ≤ 1 →
        ∃ t, exec (.scanTimerExpiry now) s = .next t ∧ t.clc.scanNumber = s.clc.scanNumber + 1#32 ∧ t.clc.scan = none ∧
          t.clc.attempt = none) ∧
      (∀ sc, period ≤ (now - since).toNat → s.clc.scan = some sc → s.clc.scanPending = false →
        exec (.scanTimerExpiry now) s =
          .next (taken now (offer (.event now (.scanOverrun sc.number))
            { s with clc := { timed with scanPending := true }, tli := { s.tli with scanOverrun := true } }))) ∧
      (∀ sc, period ≤ (now - since).toNat → s.clc.scan = some sc → s.clc.scanPending = true →
        exec (.scanTimerExpiry now) s = .next (taken now { s with clc := timed }))) ∧
  (∀ c : CalSet, c.pollList.Pairwise (fun m n => m < n) ∧
    ∀ n, n ∈ c.pollList ↔ 1 ≤ n ∧ n ≤ 16 ∧ ∃ i, i < 4 ∧ (c.deck i).mask.getLsbD (n - 1) = true)

/-- R7: the eight checks of a reply. It is valid exactly when it passes all of them, and otherwise it is the error of the first that
fails; only STALE and EXCITATION bring no second attempt, and no error changes the node's last sequence. R1: in a reply window shorter than
six characters of 11 bits at 230,400 bit/s, every reply that arrives fails LENGTH in that check's place in the order (log 38). -/
def Obligations.ReplyChecksInOrder : Prop :=
  (∀ (node : Nat) (last : Option Nat) (received : List CellChar),
    let parity := ∃ c ∈ received, c.parityOk = false
    let framing := ∃ c ∈ received, c.stopOk = false
    (received = [] → judgeReply node last received = .error .timeout) ∧
    (received ≠ [] → parity → judgeReply node last received = .error .parity) ∧
    (¬ parity → framing → judgeReply node last received = .error .framing) ∧
    (¬ parity → ¬ framing → received ≠ [] → received.length ≠ 6 → judgeReply node last received = .error .length) ∧
    (∀ a st c2 c1 c0 ck : Byte, ¬ parity → ¬ framing → received.map (·.data) = [a, st, c2, c1, c0, ck] →
      judgeReply node last received =
        if ck ≠ ~~~(a + st + c2 + c1 + c0) then .error .check
        else if a ≠ 0x80 + BitVec.ofNat 8 node then .error .address
        else if last = some (st >>> 4).toNat then .error .stale
        else if st.getLsbD 2 = true then .error .excitation
        else .valid
          { sequence := (st >>> 4).toNat, excitationLow := false, overRange := st.getLsbD 1, reference := st.getLsbD 0
            count := c2 ++ c1 ++ c0 }) ∧
    (∀ kind : CellError, kind.retriable = false ↔ kind = .stale ∨ kind = .excitation) ∧
    (∀ (kind : CellError) (r : NodeRecord), (r.errored kind).lastSequence = r.lastSequence)) ∧
  (∀ (x : Site) (node : Nat) (last : Option Nat) (received : List CellChar),
    let parity := ∃ c ∈ received, c.parityOk = false
    let framing := ∃ c ∈ received, c.stopOk = false
    (66 * 1000000 ≤ x.replyWindow * 230400 → judgeReplyIn x node last received = judgeReply node last received) ∧
    (received = [] ∨ parity ∨ framing → judgeReplyIn x node last received = judgeReply node last received) ∧
    (x.replyWindow * 230400 < 66 * 1000000 → received ≠ [] → ¬ parity → ¬ framing →
      judgeReplyIn x node last received = .error .length))

/-- R6, R8, R9, R10, R14, R15, R16, R19 (what the command carries: log 29): the end of a reply window. In a scan a retriable error on the
first attempt polls the node again; otherwise the node is settled, SAMPLE, WITHHELD or MISSING by its commanded mode and the reply, and
the next one is polled, or the last completes the scan with its deliveries, whose order is free where it can show (log 8), the directive
queue being empty or held, as by CHECK_REFERENCE. In HALTING the same poll of NORMAL is repeated or goes on to the next node. -/
def Obligations.ReplyWindowSettlesNode : Prop :=
  (∀ (s : State) (now : Stamp) (received : List CellChar) (a : Attempt), s.clc.attempt = some a → 1 ≤ a.node →
    let run := exec (.replyWindowEnd now received) s
    let r := s.clc.node a.node
    let judged := judgeReplyIn s.rnc.site a.node r.lastSequence received
    let poll (n number : Nat) : Attempt :=
      { node := n
        number := number
        command := if (s.clc.node n).delivered then .sample
          else if (s.clc.node n).mode = .reference then .reference else .normal }
    let errored (kind : CellError) : NodeRecord :=
      { r with errorCount := if r.errorCount < 65535 then r.errorCount + 1 else r.errorCount, lastError := some kind }
    let replied (reply : SampleReply) : NodeRecord :=
      { r with
        lastSequence := some reply.sequence
        delivered :=
          if reply.reference = decide (r.mode = .reference) then
            r.delivered || decide (a.command = if r.mode = .reference then .reference else .normal)
          else false }
    let again (kind : CellError) : Prop := a.number = 1 ∧ kind ≠ .stale ∧ kind ≠ .excitation
    (∀ sc, s.calm → s.clc.scan = some sc →
      let noted (outcome : AttemptOutcome) : Scan := { sc with entries := sc.entries ++ [attemptEntry a outcome received] }
      let onward (r' : NodeRecord) (done : Scan) : Prop :=
        (∀ m rest, sc.todo.tail = m :: rest → 1 ≤ m → m ≠ a.node →
          run = .next (taken now { s with clc :=
            { s.clc.setNode a.node r' with scan := some { done with todo := m :: rest }, attempt := some (poll m 1) } })) ∧
        (sc.todo.tail = [] →
          run = .next (finish (completeScan { done with todo := [] } (atTime now { s with clc := s.clc.setNode a.node r' }))) ∧
          (s.clc.scanPending = false → s.tli.directives.length ≤ 1 →
            ∃ t, run = .next t ∧ t.clc.scan = none ∧ t.clc.attempt = none))
      (∀ kind, judged = .error kind →
        (again kind →
          run = .next (taken now { s with clc :=
            { s.clc.setNode a.node (errored kind) with scan := some (noted (.error kind)), attempt := some (poll a.node 2) } })) ∧
        (¬ again kind →
          onward (errored kind) { noted (.error kind) with
            slots := sc.slots.map fun (n, old) => if n = a.node then (n, .missing kind) else (n, old) })) ∧
      (∀ reply, judged = .valid reply →
        onward (replied reply) { noted .valid with
          references :=
            if r.mode = .reference ∧ reply.reference = true then sc.references ++ [(a.node, reply.count.toInt)] else sc.references
          slots := sc.slots.map fun (n, old) =>
            if n = a.node then
              (n, if r.mode = .normal ∧ reply.reference = false then .sample reply.count.toInt reply.overRange else .withheld)
            else (n, old) })) ∧
    (∀ ref, s.held ref .halt → s.clc.scan = none → s.clc.line = .normal →
      let onward (r' : NodeRecord) : Prop :=
        (s.clc.haltTodo = [] → run = .next (taken now { s with clc := { s.clc.setNode a.node r' with attempt := none } })) ∧
        (∀ m rest, s.clc.haltTodo = m :: rest → 1 ≤ m → m ≠ a.node →
          run = .next (taken now { s with clc :=
            { s.clc.setNode a.node r' with attempt := some (poll m 1), haltTodo := rest } }))
      (∀ kind, judged = .error kind →
        (again kind →
          run = .next (taken now { s with clc :=
            { s.clc.setNode a.node (errored kind) with attempt := some (poll a.node 2) } })) ∧
        (¬ again kind → onward (errored kind))) ∧
      (∀ reply, judged = .valid reply → onward (replied reply)))) ∧
  (∀ (s : State) (sc : Scan), s.clc.scanPending = false →
    let cleared : State := { s with clc := { s.clc with scan := none, attempt := none } }
    let done := referenceCounts sc.references (workHandoff sc.number sc.slots (updateNodes sc.slots cleared))
    scanOrderShows sc cleared = false →
      (s.tli.mirror = false → completeScan sc s = done) ∧
      (s.tli.mirror = true →
        completeScan sc s =
          { done with tli := done.tli.offerSample { scan := sc.number, line := done.clc.line, entries := sc.entries } }))

/-- R11: the moves of the node records at a scan completion, one node after the other in the ascending order of the poll list, with
NODE_LOST and NODE_RECOVERED. R11, R31 (log 3): the scan that takes a node's f to the lost limit makes it LOST with NODE_LOST, and the
one that takes a deck's h past the hold limit makes it FAULT with DECK_FAULT, its histories emptied and its zeros kept. R23 to R32: the
work of a handoff on one deck, complete or incomplete by its own cells, with its histories, F, stability, state and recovery, and the
zero reloaded for a faulted deck too (log 12). -/
def Obligations.LimitsLoseNodesAndFaultDecks : Prop :=
  (∀ (s : State) (now : Stamp) (node : Nat), s.calm → s.rnc.runState = .warmup ∨ s.rnc.runState = .run →
    let r := s.clc.node node
    (r.state = .searching ∨ r.state = .suspect → s.rnc.site.lostLimit ≤ r.missed + 1 →
      exec (.nodeLost now node) s =
        .next (taken now (offer (.event now (.nodeLost node))
          { s with clc := s.clc.setNode node { r with state := .lost, missed := r.missed + 1 } }))) ∧
    (r.state ≠ .searching ∧ r.state ≠ .suspect ∨ r.missed + 1 < s.rnc.site.lostLimit →
      exec (.nodeLost now node) s = .next (taken now s))) ∧
  (∀ (s : State) (now : Stamp) (deck : Nat) (d : Deck), s.calm → s.rnc.runState = .warmup ∨ s.rnc.runState = .run →
    s.wge.deck deck = some d →
    (d.faulted = false → s.rnc.site.holdLimit ≤ d.hold →
      exec (.deckFault now deck) s =
        .next (taken now (offer (.event now (.deckFault deck))
          { s with wge := { s.wge with decks := s.wge.decks.set deck (some
            { d with
              hold := if d.hold < 255 then d.hold + 1 else d.hold
              stable := false, trackRun := 0, filter := [], stability := [], value := none, faulted := true, overFlag := false
              state := .fault }) } }))) ∧
    (d.faulted = true ∨ d.hold < s.rnc.site.holdLimit → exec (.deckFault now deck) s = .next (taken now s))) ∧
  (∀ (slots : List (Nat × Slot)) (nodes : List Nat),
    (deckSamples slots nodes = none ↔ ∃ n ∈ nodes, ∀ count flag, slots.lookup n ≠ some (.sample count flag)) ∧
    (∀ samples, deckSamples slots nodes = some samples →
      (samples.map fun x => x.node) = nodes ∧ ∀ x ∈ samples, slots.lookup x.node = some (.sample x.count x.overRange))) ∧
  (∀ (c : CalSet) (sum : Int) (clamped : Bool) (d : Deck),
    let filter := (d.filter ++ [sum - d.zero]).drop (d.filter.length + 1 - c.filterLength)
    let f := roundDiv filter.sum filter.length
    let stability := (d.stability ++ [f]).drop (d.stability.length + 1 - c.stabilityWindow)
    d.complete c sum clamped =
      { d with
        filter := filter
        value := some f
        stability := stability
        stable := decide (stability.length = c.stabilityWindow ∧
          ∀ x ∈ stability, ∀ y ∈ stability, x - y ≤ ((c.motionBand * c.division * 500 : Nat) : Int))
        hold := 0, faulted := false, overFlag := clamped
        state := if d.initialZero = none then .noZero else .valid }) ∧
  (∀ (limit : Nat) (d : Deck),
    let held : Deck := { d with hold := if d.hold < 255 then d.hold + 1 else d.hold, stable := false, trackRun := 0 }
    (d.faulted = false → d.hold < limit →
      d.incomplete limit = { held with state := if d.initialZero = none then .noZero else .held }) ∧
    (d.faulted = true → d.incomplete limit = { held with state := .fault }) ∧
    (d.faulted = false → limit ≤ d.hold →
      d.incomplete limit =
        { held with filter := [], stability := [], value := none, faulted := true, overFlag := false, state := .fault })) ∧
  (∀ (s : State) (slots : List (Nat × Slot)) (i : Nat) (d : Deck), s.wge.deck i = some d →
    let c := s.setInUse
    let limit := s.rnc.site.holdLimit
    let loaded : Deck := { d with zero := if d.initialZero = none ∧ s.psu.passage = none then (c.deck i).zeroCal else d.zero }
    (∀ samples, deckSamples slots (maskNodes (c.deck i).mask) = some samples →
      workDeck slots i s =
        zeroActions i (loaded.complete c (deckSum c samples) (deckOver c samples))
          (if d.faulted = true then offer (.event s.ylu.timebase (.deckRecovered i)) s else s)) ∧
    (deckSamples slots (maskNodes (c.deck i).mask) = none →
      workDeck slots i s =
        (let t := if d.faulted = false ∧ limit ≤ d.hold then offer (.event s.ylu.timebase (.deckFault i)) s else s
         { t with wge := { t.wge with decks := t.wge.decks.set i (some (loaded.incomplete limit)) } }))) ∧
  (∀ s : State, updateNodes [] s = s) ∧
  (∀ (s : State) (n : Nat) (slot : Slot) (rest : List (Nat × Slot)),
    let run := updateNodes ((n, slot) :: rest) s
    let r := s.clc.node n
    let limit := s.rnc.site.lostLimit
    let answered := (∃ count flag, slot = .sample count flag) ∨ slot = .withheld
    let moved (r : NodeRecord) : State := { s with clc := s.clc.setNode n r }
    let raised (e : Event) (x : State) : State := offer (.event s.ylu.timebase e) x
    (answered → r.state ≠ .lost → run = updateNodes rest (moved { r with state := .live, missed := 0 })) ∧
    (answered → r.state = .lost →
      run = updateNodes rest (raised (.nodeRecovered n) (moved { r with state := .live, missed := 0 }))) ∧
    (¬ answered → r.state = .live → run = updateNodes rest (moved { r with state := .suspect, missed := 1 })) ∧
    (¬ answered → r.state = .searching ∨ r.state = .suspect → r.missed + 1 < limit →
      run = updateNodes rest (moved { r with missed := r.missed + 1 })) ∧
    (¬ answered → r.state = .searching ∨ r.state = .suspect → limit ≤ r.missed + 1 →
      run = updateNodes rest (raised (.nodeLost n) (moved { r with state := .lost, missed := r.missed + 1 }))) ∧
    (¬ answered → r.state = .lost → run = updateNodes rest (moved r)))

/-- R12, R13 (what the command carries: log 29): a break changes the line state and raises LINE_BREAK; the attempt in progress ends with
TIMEOUT or FRAMING in its node's record, and in a scan its node is settled as missing without a second attempt, the rest is settled
NOT_POLLED, and the scan completes at once; an attempt of HALT, which holds the directive queue, ends with it. The line's return raises
LINE_RESTORED. Neither is watched for during a line test (R17), while LINE_TEST holds the queue, and neither is an occurrence where the
line already stands so (log 2). `calm` takes in a queue that a directive holds. -/
def Obligations.LineBreaksAndReturns : Prop :=
  ∀ (s : State) (now : Stamp) (received : List CellChar), s.calm →
    let run := exec (.lineBreak now received) s
    let broken : State := offer (.event now .lineBreak) { s with clc := { s.clc with line := .broken } }
    let kind : CellError := if received = [] then .timeout else .framing
    (s.clc.line = .broken ∨ s.clc.lineTest = true → run = .next (taken now s)) ∧
    (s.clc.line = .normal → s.clc.lineTest = false → s.clc.attempt = none → run = .next (taken now broken)) ∧
    (∀ a, s.clc.line = .normal → s.clc.lineTest = false → s.clc.attempt = some a →
      let r := s.clc.node a.node
      let errored : NodeRecord :=
        { r with errorCount := if r.errorCount < 65535 then r.errorCount + 1 else r.errorCount, lastError := some kind }
      let noted : State := { broken with clc := broken.clc.setNode a.node errored }
      (breakError received = kind ∧ recordReply a (.error kind) broken = noted) ∧
      (s.clc.scan = none → run = .next (taken now { noted with clc := { noted.clc with attempt := none, haltTodo := [] } })) ∧
      (∀ sc, s.clc.scan = some sc →
        let cut : Scan :=
          { sc with
            todo := sc.todo.tail
            entries := sc.entries ++ [attemptEntry a (.error kind) received]
            slots := sc.slots.map fun (n, old) => if n = a.node then (n, .missing kind) else (n, old) }
        run = .next (finish (completeScan cut.leaveRest (atTime now noted))) ∧
        cut.leaveRest =
          { cut with
            todo := []
            entries := cut.entries ++ sc.todo.tail.map fun n =>
              { node := n, attempt := none, outcome := .notPolled, status := none, count := none }
            slots := cut.slots.map fun (n, old) => if n ∈ sc.todo.tail then (n, .notPolled) else (n, old) } ∧
        (s.tli.directives.length ≤ 1 →
          ∃ t, run = .next t ∧ t.clc.line = .broken ∧ t.clc.scan = none ∧ t.clc.attempt = none ∧
            (1 ≤ a.node → a.node ≤ s.clc.nodes.length →
              (t.clc.node a.node).errorCount = errored.errorCount ∧ (t.clc.node a.node).lastError = some kind)))) ∧
    (s.clc.line = .normal ∨ s.clc.lineTest = true → exec (.lineRestored now) s = .next (taken now s)) ∧
    (s.clc.line = .broken → s.clc.lineTest = false →
      exec (.lineRestored now) s =
        .next (taken now (offer (.event now .lineRestored) { s with clc := { s.clc with line := .normal } })))

/-! ## Weighing -/

/-- R36: ZERO_DECK naming one deck, row by row. On DONE the working zero and both histories move by F, F becomes 0, the zero-track run
becomes 0, and the initial zero and the published record stand. -/
def Obligations.ZeroDeckByTable : Prop :=
  ∀ (s : State) (now : Stamp) (ref deck : Byte), s.ready →
    let code : Byte := 0x08
    (4 ≤ deck.toNat → deck ≠ 0xFF → exec (.zeroDeck now ref deck) s = .next (replied now ref code .badValue .nothing s)) ∧
    (deck.toNat < 4 → s.rnc.runState ≠ .run →
      exec (.zeroDeck now ref deck) s = .next (replied now ref code .wrongState .nothing s)) ∧
    (deck.toNat < 4 → s.rnc.runState = .run → s.wge.deck deck.toNat = none →
      exec (.zeroDeck now ref deck) s = .next (replied now ref code .notFound .nothing s)) ∧
    (∀ d, deck.toNat < 4 → s.rnc.runState = .run → s.wge.deck deck.toNat = some d →
      (s.psu.passage ≠ none → exec (.zeroDeck now ref deck) s = .next (replied now ref code .busy .nothing s)) ∧
      (s.psu.passage = none → d.state ≠ .valid ∨ d.stable = false →
        exec (.zeroDeck now ref deck) s = .next (replied now ref code .unstable .nothing s)) ∧
      (∀ f initial, s.psu.passage = none → d.state = .valid → d.stable = true → d.value = some f → d.initialZero = some initial →
        (s.setInUse.maxLoad * 20 < (d.zero + f - initial).natAbs →
          exec (.zeroDeck now ref deck) s = .next (replied now ref code .outOfZeroRange .nothing s)) ∧
        ((d.zero + f - initial).natAbs ≤ s.setInUse.maxLoad * 20 →
          exec (.zeroDeck now ref deck) s =
            .next (replied now ref code .done (.correction f)
              { s with wge := { s.wge with decks := s.wge.decks.set deck.toNat (some
                { d with
                  zero := d.zero + f
                  filter := d.filter.map fun x => x - f
                  stability := d.stability.map fun x => x - f
                  value := some 0
                  trackRun := 0 }) } }))))

/-- R37: ZERO_DECK naming all decks zeroes every configured deck when each would be zeroed alone. Otherwise nothing changes and the
reply is the refusal of the lowest deck that fails, with its number; with no configured deck it is NOT_FOUND. -/
def Obligations.ZeroAllDecksOrNone : Prop :=
  ∀ (s : State) (now : Stamp) (ref : Byte), s.ready →
    let run := exec (.zeroDeckAll now ref) s
    let configured (i : Nat) : Prop := i < 4 ∧ s.wge.deck i ≠ none
    ((∀ i, ¬ configured i) → run = .next (replied now ref 0x08 .notFound .nothing s)) ∧
    (∀ i, s.rnc.runState ≠ .run → configured i → (∀ j, j < i → ¬ configured j) →
      run = .next (replied now ref 0x08 .wrongState (.deck i) s)) ∧
    (∀ i, s.rnc.runState = .run → s.psu.passage ≠ none → configured i → (∀ j, j < i → ¬ configured j) →
      run = .next (replied now ref 0x08 .busy (.deck i) s)) ∧
    (∀ i flaw, configured i → zeroFlaw s i = some flaw → (∀ j, j < i → configured j → zeroFlaw s j = none) →
      run = .next (replied now ref 0x08 flaw (.deck i) s)) ∧
    ((∃ i, configured i) → (∀ i, configured i → zeroFlaw s i = none) →
      ∃ decks, run = .next (replied now ref 0x08 .done (.corrections decks)
          { s with wge := { s.wge with decks := s.wge.decks.map (Option.map fun d =>
            { d with
              zero := d.zero + d.value.getD 0
              filter := d.filter.map fun x => x - d.value.getD 0
              stability := d.stability.map fun x => x - d.value.getD 0
              value := d.value.map fun x => x - d.value.getD 0
              trackRun := 0 }) } }) ∧
        ∀ i x, (i, x) ∈ decks ↔ i < 4 ∧ ∃ d, s.wge.deck i = some d ∧ x = d.value.getD 0)

/-- R47 (the offer's own row: log 3, the mirror byte: log 15): SET_STREAM replaces the interval and the mirror switch and restarts the
stream count; when the count reaches the interval the latest record is offered to the WEIGHT slot, superseding an unsent one, and the
count returns to 0; outside WARMUP and RUN no record is published, and the offer is no occurrence (log 2). R23, R41 to R46, R205: what
the record of a handoff holds, its WARMUP mark fixed at publication, and how it is published; the gross of deck 0 is taken with the zero
of log 12. -/
def Obligations.StreamSetAndOffered : Prop :=
  (∀ (s : State) (now : Stamp) (ref interval mirror : Byte), s.ready →
    (offOrOn mirror = none → exec (.setStream now ref interval mirror) s = .next (replied now ref 0x0A .badValue .nothing s)) ∧
    (∀ m, offOrOn mirror = some m →
      exec (.setStream now ref interval mirror) s =
        .next (replied now ref 0x0A .done .nothing
          { s with wge := { s.wge with streamCount := 0 }, tli := { s.tli with interval := interval.toNat, mirror := m } }))) ∧
  (∀ (s : State) (now : Stamp), s.calm →
    (∀ r g, s.rnc.runState = .warmup ∨ s.rnc.runState = .run → s.wge.latest = some r → s.tli.interval ≠ 0 →
      s.tli.interval ≤ s.wge.streamCount + 1 → s.tli.sending = some g →
      exec (.streamOffer now) s =
        .next (taken now { s with
          wge := { s.wge with streamCount := 0 }
          tli := { s.tli with weightSlot := some { record := r, foremost := s.foremost } } })) ∧
    (s.rnc.runState = .halted ∨ s.rnc.runState = .halting ∨ s.wge.latest = none ∨ s.tli.interval = 0 ∨
        s.wge.streamCount + 1 < s.tli.interval →
      exec (.streamOffer now) s = .next (taken now s))) ∧
  (∀ (s : State) (scan : BitVec 32),
    let c := s.setInUse
    let views : List (Option DeckView) := s.wge.decks.mapIdx fun i deck => deck.map fun d =>
      { inBridge := (c.deck i).inBridge, state := d.state, value := d.value
        indication := d.value.map fun f => (c.division : Int) * roundDiv f (1000 * c.division)
        stable := d.stable, overFlag := d.overFlag, zeroLimit := d.zeroLimit }
    let bridge := views.filterMap fun v => v.filter fun v => v.inBridge
    let weight := (c.division : Int) * roundDiv (bridge.filterMap fun v => v.value).sum (1000 * c.division)
    weightRecord scan s =
      { scan := scan, calCount := s.stc.store.calibration.count, decks := views, weight := weight
        range := bridgeRange c bridge weight
        valid := decide (bridge ≠ [] ∧ ∀ v ∈ bridge, v.state = .valid ∨ v.state = .held ∧ v.value ≠ none)
        stable := decide (bridge ≠ [] ∧ ∀ v ∈ bridge, v.state = .valid ∧ v.stable = true)
        test := decide (s.clu.staged ≠ none ∨ ∃ i ∈ List.range 4, s.wge.deck i ≠ none ∧ (c.deck i).inBridge = true ∧
          ∃ n ∈ maskNodes (c.deck i).mask, (s.clc.node n).mode = .reference ∨ (s.clc.node n).delivered = false)
        warmup := decide (s.rnc.runState = .warmup) }) ∧
  (∀ (s : State) (r : WeightRecord) (pad : Option Int), s.axm.checking = false → s.psu.passage = none →
    (s.tli.interval = 0 ∨ s.wge.streamCount + 1 < s.tli.interval →
      publishRecord r pad s =
        { s with wge := { s.wge with
            latest := some r
            streamCount := if s.tli.interval = 0 then 0 else s.wge.streamCount + 1 } }) ∧
    (∀ g, s.tli.interval ≠ 0 → s.tli.interval ≤ s.wge.streamCount + 1 → s.tli.sending = some g →
      publishRecord r pad s =
        { s with
          wge := { s.wge with latest := some r, streamCount := 0 }
          tli := { s.tli with weightSlot := some { record := r, foremost := s.foremost } } })) ∧
  (∀ (s : State) (scan : BitVec 32) (slots : List (Nat × Slot)),
    let worked := workDeck slots 3 (workDeck slots 2 (workDeck slots 1 (workDeck slots 0 s)))
    workHandoff scan slots s = countWarmup (publishRecord (weightRecord scan worked) (padGross slots s) worked) ∧
    (∀ d samples, s.wge.deck 0 = some d → deckSamples slots (maskNodes (s.setInUse.deck 0).mask) = some samples →
      padGross slots s = some (deckSum s.setInUse samples -
        if d.initialZero = none ∧ s.psu.passage = none then (s.setInUse.deck 0).zeroCal else d.zero)) ∧
    (s.wge.deck 0 = none ∨ deckSamples slots (maskNodes (s.setInUse.deck 0).mask) = none → padGross slots s = none))

/-- R38, R39, R175 (log 3): the handoff at which a trackable deck's run reaches ZT corrects its zero by F, cut at Max × 20 g from the
initial zero; a cut on a clear flag latches it with ZERO_LIMIT and takes the trade status to NOT_VERIFIED. R35, R38: the zero actions of a
complete deck in a handoff, with the initial zero, the growth of the zero-track run and its return to 0 (log 13). -/
def Obligations.ZeroTrackingCorrects : Prop :=
  (∀ (s : State) (now : Stamp) (i : Nat) (d : Deck) (f initial : Int), s.calm → s.psu.passage = none → s.vfu.session = none →
    s.clu.staged = none → s.rnc.runState = .run → s.wge.deck i = some d → d.state = .valid → d.stable = true → d.value = some f →
    d.initialZero = some initial → f.natAbs ≤ s.committed.division * 500 → s.committed.zeroTrackWindow ≤ d.trackRun + 1 →
    let limit : Int := s.committed.maxLoad * 20
    let corrected (x : Int) (flag : Bool) : State :=
      { s with wge := { s.wge with decks := s.wge.decks.set i (some
        { d with
          zero := d.zero + x
          filter := d.filter.map fun v => v - x
          stability := d.stability.map fun v => v - x
          value := some (f - x)
          trackRun := 0
          zeroLimit := flag }) } }
    ((d.zero + f - initial).natAbs ≤ limit →
      exec (.zeroTrackCorrection now i) s = .next (taken now (corrected f d.zeroLimit))) ∧
    (∀ x, limit < (d.zero + f - initial).natAbs → x = (if 0 < d.zero + f - initial then limit else -limit) - (d.zero - initial) →
      d.zeroLimit = true → exec (.zeroTrackCorrection now i) s = .next (taken now (corrected x true))) ∧
    (∀ x, limit < (d.zero + f - initial).natAbs → x = (if 0 < d.zero + f - initial then limit else -limit) - (d.zero - initial) →
      d.zeroLimit = false → s.reasonSet = [] →
      exec (.zeroTrackCorrection now i) s =
        .next (taken now (offer (.event now (.tradeStatusChanged false [.zeroLimit] true .zeroLimit))
          { (offer (.event now (.zeroLimit i)) (corrected x true)) with
            vfu := { s.vfu with zeroLimitPending := true }
            stc := { s.stc with queue := s.stc.queue ++ [.reason] } }))) ∧
    (∀ x, limit < (d.zero + f - initial).natAbs → x = (if 0 < d.zero + f - initial then limit else -limit) - (d.zero - initial) →
      d.zeroLimit = false → .zeroLimit ∈ s.reasonSet →
      exec (.zeroTrackCorrection now i) s =
        .next (taken now (offer (.event now (.zeroLimit i)) (corrected x true))))) ∧
  (∀ (s : State) (i : Nat) (d : Deck),
    let c := s.setInUse
    let put (d : Deck) : State := { s with wge := { s.wge with decks := s.wge.decks.set i (some d) } }
    let initial := s.psu.passage = none ∧ s.rnc.runState = .run ∧ d.state = .noZero ∧ d.stable = true
    let tracks := s.psu.passage = none ∧ s.rnc.runState = .run ∧ s.vfu.session = none ∧ s.clu.staged = none ∧ d.state = .valid ∧
      d.stable = true
    (∀ f, initial → d.value = some f → f.natAbs ≤ c.maxLoad * 100 →
      zeroActions i d s = put
        { d with
          zero := d.zero + f, initialZero := some (d.zero + f), filter := d.filter.map fun v => v - f
          stability := d.stability.map fun v => v - f, value := some 0, trackRun := 0, state := .valid }) ∧
    (∀ f, tracks → d.value = some f → f.natAbs ≤ c.division * 500 → d.trackRun + 1 < c.zeroTrackWindow →
      zeroActions i d s = put { d with trackRun := d.trackRun + 1 }) ∧
    ((initial → ∀ f, d.value = some f → c.maxLoad * 100 < f.natAbs) → (tracks → ∀ f, d.value = some f → c.division * 500 < f.natAbs) →
      zeroActions i d s = put { d with trackRun := 0 }))

/-! ## The yard, the strips and the passage's timers -/

/-- R52, R53, R55: a raw transition away from the accepted level opens a candidate, one back to it abandons the candidate as chatter, and
one during settling restarts the interval; an input that has held through its settling interval takes its first level, unreported. A
transition to the level the input already has, and a settling completion with none settling, are no occurrence (log 2). -/
def Obligations.InputsAreFiltered : Prop :=
  ∀ (s : State) (now : Stamp) (i : YardInput) (level : Bool), s.calm →
    let f := s.ylu.filter i
    let withFilter (g : InputFilter) : State := { s with ylu := s.ylu.setFilter g i }
    (f.raw = level → exec (.rawTransition now i level) s = .next (taken now s)) ∧
    (f.raw ≠ level → f.accepted = none →
      exec (.rawTransition now i level) s = .next (taken now (withFilter { f with raw := level, settling := some ⟨level, now⟩ }))) ∧
    (f.raw ≠ level → f.accepted = some (!level) →
      exec (.rawTransition now i level) s = .next (taken now (withFilter { f with raw := level, candidate := some ⟨level, now⟩ }))) ∧
    (∀ c, f.raw ≠ level → f.accepted = some level → f.candidate = some c →
      exec (.rawTransition now i level) s =
        .next (taken now (withFilter
          { f with raw := level, candidate := none, chatter := if f.chatter < 65535 then f.chatter + 1 else f.chatter }))) ∧
    (∀ m, f.settling = some m → s.rnc.site.filterTime i ≤ (now - m.stamp).toNat →
      exec (.settlingComplete now i) s = .next (taken now (withFilter { f with accepted := some m.level, settling := none }))) ∧
    (f.settling = none → exec (.settlingComplete now i) s = .next (taken now s))

/-- R52, R56, R58: a candidate held for the filter time is accepted with its own timestamp and handed on, the consumer's frames before
LINE_CHANGE (log 9); an unripe candidate is no occurrence (log 2). R65 to R68, R71, R79: strip presses make crossings and reversals.
R105 to R109, R111 to R114: loop changes open a passage and move it. R163, R165, R167: an opening of CAL_SWITCH ends calibration mode,
or is recorded while a commit is in flight and COMMIT_CAL holds the directive queue. 20d is taken with the division of the set in use
(log 27). -/
def Obligations.FilterAcceptsAndHandsOn : Prop :=
  ∀ (s : State) (now : Stamp) (i : YardInput) (c : LevelMark), s.calm → (s.ylu.filter i).candidate = some c →
    let run := exec (.filterAccept now i) s
    let g : InputFilter := { s.ylu.filter i with accepted := some c.level, last := some c, candidate := none }
    let accepted : State := { s with ylu := s.ylu.setFilter g i }
    let ripe := s.rnc.site.filterTime i ≤ (now - c.stamp).toNat
    let changed (x : State) : State := offer (.event now (.lineChange i c.level c.stamp)) x
    let told (before after : Option PassageState) (cause : PassageCause) (p : Passage) (x : State) : State :=
      offer (.passage { after := after, before := before, cause := cause, record := p, stamp := some c.stamp }) x
    let fault (cause : StripCause) (opened : Stamp) (x : State) : State :=
      offer (.event now (.stripFault s.passageNumber cause opened)) x
    let crossing (t : Stamp) (speed : Option Nat) : PendingAxle :=
      { crossing := some t, speed := speed, onPad := false, padOnly := false }
    (¬ ripe → run = .next (taken now s)) ∧
    (ripe → ∃ t, run = .next t ∧ t.ylu.filter i = g) ∧
    (ripe → i = .stripA ∨ i = .stripB → c.level = false ∨ s.axm.checking = false → run = .next (taken now accepted)) ∧
    (ripe → i = .calSwitch → c.level = true ∨ s.clu.staged = none → run = .next (taken now (changed accepted))) ∧
    (∀ staged, ripe → i = .calSwitch → c.level = false → s.clu.staged = some staged →
      ((∀ u ∈ s.stc.queue, u.producer ≠ .clu) →
        run = .next (taken now (changed (offer (.event now (.calSwitchOpened (changedParams staged s.committed).length))
          (setChanged staged true { accepted with clu := { staged := none, openingRecorded := false } }))))) ∧
      ((∃ u ∈ s.stc.queue, u.producer = .clu) →
        run = .next (taken now (changed { accepted with clu := { s.clu with openingRecorded := true } })))) ∧
    (ripe → i = .entryLoop → c.level = true → s.psu.passage = none → s.rnc.runState = .warmup ∨ s.rnc.runState = .run →
      let p : Passage :=
        { number := s.psu.counter + 1#16, state := .arriving, intruder := !s.ylu.entryGreen, runThrough := false, identity := none
          capture := none, axles := none, holds := [], ticket := none }
      run = .next (taken now (changed (told none (some .arriving) .entered p
        { accepted with
          psu := { s.psu with passage := some p, counter := s.psu.counter + 1#16 }
          axm := if s.setInUse.padDeck = true then { Axm.cleared with checking := true } else s.axm })))) ∧
    (ripe → c.level = true → s.axm.checking = true →
      (i = .stripA → s.axm.pairing = none →
        run = .next (taken now { accepted with axm := { s.axm with pairing := some ⟨.forward, c.stamp⟩ } })) ∧
      (∀ t0, i = .stripA → s.axm.pairing = some ⟨.forward, t0⟩ → s.axm.queue.length < 4 →
        run = .next (taken now (fault .repeatedA t0 { accepted with axm := { s.axm with
          pairing := some ⟨.forward, c.stamp⟩, queue := s.axm.queue ++ [crossing t0 none], padIgnore := false } }))) ∧
      (∀ t0, i = .stripA → s.axm.pairing = some ⟨.reverse, t0⟩ → c.stamp ≠ t0 →
        (c.stamp - t0).toNat ≤ s.rnc.site.pairingWindow * 1000 →
        let reversed : Axm := { s.axm with
          pairing := none, queue := [], padIgnore := true, afterReverse := true
          dwell := s.axm.dwell.map fun d => { d with detached := true } }
        (s.axm.list = [] → run = .next (taken now { accepted with axm := reversed })) ∧
        (∀ l r, s.axm.list = l ++ [r] →
          run = .next (taken now (offer (.axle s.passageNumber .removed r)
            { accepted with axm := { reversed with list := l } })))) ∧
      (i = .stripB → s.axm.pairing = none →
        run = .next (taken now { accepted with axm := { s.axm with pairing := some ⟨.reverse, c.stamp⟩ } })) ∧
      (∀ t0, i = .stripB → s.axm.pairing = some ⟨.reverse, t0⟩ →
        run = .next (taken now (fault .repeatedB t0
          { accepted with axm := { s.axm with pairing := some ⟨.reverse, c.stamp⟩ } }))) ∧
      (∀ t0, i = .stripB → s.axm.pairing = some ⟨.forward, t0⟩ → (c.stamp - t0).toNat ≤ s.rnc.site.pairingWindow * 1000 →
        s.axm.queue.length < 4 →
        let joined (speed : Option Nat) : State := { accepted with axm := { s.axm with
          pairing := none, queue := s.axm.queue ++ [crossing t0 speed], padIgnore := false } }
        (c.stamp ≠ t0 →
          run = .next (taken now (joined (some (s.rnc.site.stripSpacing * 1000000 / (c.stamp - t0).toNat))))) ∧
        (c.stamp = t0 → run = .next (taken now (fault .simultaneous t0 (joined none)))))) ∧
    (∀ p, ripe → s.psu.passage = some p →
      let heavy := 20 * (s.setInUse.division : Int) ≤ s.latestWeight
      let cleared (p : Passage) : Passage :=
        { p with state := .clearing, holds := p.holds.filter fun r => decide (r ∈ [.unlisted, .blocked, .probe, .overload]) }
      let gone : State := { accepted with psu := { s.psu with passage := none, captureTimer := none }, axm := .cleared }
      let unchecked : Axm := { s.axm with checking := false, pairing := none, queue := [], pad := .unknown, dwell := none }
      (i = .entryLoop → c.level = false → p.state = .arriving → s.ylu.exitLoop.accepted = some false →
        (s.axm.list ≠ [] ∨ heavy →
          let q : Passage := { p with state := .onBridge }
          run = .next (taken now (changed (told (some .arriving) (some .onBridge) .on q
            { accepted with psu := { s.psu with
                passage := some q
                captureTimer := if p.intruder = true then s.psu.captureTimer else some now } })))) ∧
        (s.axm.list = [] → ¬ heavy →
          run = .next (taken now (changed (told (some .clearing) none .cleared (cleared p)
            (told (some .arriving) (some .clearing) .backedOut (cleared p) gone)))))) ∧
      (i = .exitLoop → c.level = true → p.state = .arriving ∨ p.state = .onBridge ∨ p.state = .captured → p.intruder = false →
        let q : Passage := { p with state := .leaving, runThrough := true, holds := (cleared p).holds }
        run = .next (taken now (changed (told (some p.state) (some .leaving) .runThrough q
          (offer (.event now (.runThrough p.number p.state c.stamp))
            { accepted with
              psu := { s.psu with passage := some q, captureTimer := none }
              axm := if p.state = .captured then s.axm else unchecked }))))) ∧
      (i = .exitLoop → c.level = true → p.state = .issuing →
        run = .next (taken now (changed (offer (.event now (.runThrough p.number .issuing c.stamp))
          (markRunThrough p.number
            { accepted with psu := { s.psu with passage := some { p with runThrough := true } } }))))) ∧
      (i = .exitLoop → c.level = true → p.state = .done → p.holds = [] →
        let q : Passage := { p with state := .leaving }
        run = .next (taken now (changed (told (some .done) (some .leaving) .exit q
          { accepted with psu := { s.psu with passage := some q, captureTimer := none } })))) ∧
      (i = .exitLoop → c.level = true → p.state = .done → p.holds ≠ [] →
        let q : Passage := { p with state := .leaving, runThrough := true }
        run = .next (taken now (changed (told (some .done) (some .leaving) .exit q
          (offer (.event now (.runThrough p.number .done c.stamp))
            { accepted with psu := { s.psu with passage := some q, captureTimer := none } }))))) ∧
      (i = .exitLoop → c.level = false → p.state = .leaving →
        (s.ylu.entryLoop.accepted ≠ some true ∨ s.rnc.runState ≠ .warmup ∧ s.rnc.runState ≠ .run →
          run = .next (taken now (changed (told (some .leaving) none .left p gone)))) ∧
        (s.ylu.entryLoop.accepted = some true → s.rnc.runState = .warmup ∨ s.rnc.runState = .run →
          let q : Passage :=
            { number := s.psu.counter + 1#16, state := .arriving, intruder := true, runThrough := false, identity := none
              capture := none, axles := none, holds := [], ticket := none }
          run = .next (taken now (changed (offer (.passage
              { after := some .arriving, before := none, cause := .entered, record := q
                stamp := s.ylu.entryLoop.last.map fun m => m.stamp })
            { told (some .leaving) none .left p gone with
              psu := { passage := some q, counter := s.psu.counter + 1#16, captureTimer := none }
              axm := if s.setInUse.padDeck = true then { Axm.cleared with checking := true } else .cleared }))))) ∧
      (i = .exitLoop → c.level = false → p.state = .arriving ∨ p.state = .onBridge → p.intruder = true →
        (s.ylu.entryLoop.accepted ≠ some false ∨ heavy →
          run = .next (taken now (changed (told (some p.state) (some .clearing) .intruderLeft (cleared p)
            { accepted with psu := { s.psu with passage := some (cleared p), captureTimer := none }, axm := unchecked })))) ∧
        (s.ylu.entryLoop.accepted = some false → ¬ heavy →
          run = .next (taken now (changed (told (some .clearing) none .cleared (cleared p)
            (told (some p.state) (some .clearing) .intruderLeft (cleared p) gone)))))) ∧
      (c.level = false → p.state = .clearing → ¬ heavy →
        i = .entryLoop ∧ s.ylu.exitLoop.accepted = some false ∨ i = .exitLoop ∧ s.ylu.entryLoop.accepted = some false →
        run = .next (taken now (changed (told (some .clearing) none .cleared p gone)))))

/-- R70, R116: the capture timer that runs out in ON_BRIDGE adds the wait UNSTABLE with CAPTURE_TIMEOUT and the conditions the latest
record failed (the run state at the expiry: log 36); an open pairing past its window becomes a crossing without a speed, or is discarded,
with STRIP_FAULT. Before their time neither row is an occurrence (log 2). R110, R114, R115: what a bridge weight record does to the
passage, a vanish, a capture or nothing. R72 to R77, R80: what a pad result does to the dwell and the axle list, and the resting axle at
capture. 20d is taken with the division of the set in use (log 27), the request is judged before CAPTURE is reported (log 10),
and the pad state stands through the capture (log 34). -/
def Obligations.PassageTimersRunOut : Prop :=
  (∀ (s : State) (now since : Stamp) (p : Passage), s.calm → s.psu.passage = some p → s.psu.captureTimer = some since →
      (∀ r, p.state = .onBridge → s.rnc.site.captureTimeout * 1000000 ≤ (now - since).toNat → s.wge.latest = some r →
        let failed : List CaptureCondition :=
          (if s.rnc.runState = .run then [] else [.running]) ++ (if r.valid = true then [] else [.valid]) ++
          (if r.stable = true then [] else [.stable]) ++ (if r.test = true then [.notTest] else []) ++
          (if r.range = .inRange then [] else [.inRange]) ++
          (if 20 * (s.setInUse.division : Int) ≤ r.weight then [] else [.heavy])
        let p' : Passage := { p with holds := addHold .unstable p.holds }
        exec (.captureTimeout now) s =
          .next (taken now
            (offer (.passage
                { after := some .onBridge, before := some .onBridge, cause := .holdChange, record := p', stamp := none })
              (offer (.event now (.captureTimeout p.number failed))
                { s with psu := { s.psu with passage := some p', captureTimer := none } })))) ∧
      (p.state ≠ .onBridge ∨ (now - since).toNat < s.rnc.site.captureTimeout * 1000000 →
        exec (.captureTimeout now) s = .next (taken now s))) ∧
  (∀ (s : State) (now t0 : Stamp) (direction : PairingDirection) (p : Passage), s.calm → s.axm.checking = true →
      s.psu.passage = some p → s.axm.pairing = some ⟨direction, t0⟩ →
      let due := s.rnc.site.pairingWindow * 1000 + s.rnc.site.stripFilter * 100 + 1
      (due ≤ (now - t0).toNat → direction = .forward → s.axm.queue.length < 4 →
        exec (.pairingExpiry now) s =
          .next (taken now (offer (.event now (.stripFault p.number .aExpired t0))
            { s with axm := { s.axm with
              pairing := none
              queue := s.axm.queue ++ [{ crossing := some t0, speed := none, onPad := false, padOnly := false }]
              padIgnore := false } }))) ∧
      (due ≤ (now - t0).toNat → direction = .reverse →
        exec (.pairingExpiry now) s =
          .next (taken now (offer (.event now (.stripFault p.number .bExpired t0)) { s with axm := { s.axm with pairing := none } }))) ∧
      ((now - t0).toNat < due → exec (.pairingExpiry now) s = .next (taken now s))) ∧
  (∀ (s : State) (r : WeightRecord) (p : Passage), s.psu.passage = some p → s.wge.latest = some r →
      let clear := s.ylu.entryLoop.accepted = some false ∧ s.ylu.exitLoop.accepted = some false
      let light := r.weight < 20 * (s.setInUse.division : Int)
      let vanishes := r.stable = true ∧ light ∧ clear
      let captures := s.rnc.runState = .run ∧ r.valid = true ∧ r.stable = true ∧ r.test = false ∧ r.range = .inRange ∧ ¬ light
      let told (before : PassageState) (after : Option PassageState) (cause : PassageCause) (p : Passage) (x : State) : State :=
        offer (.passage { after := after, before := some before, cause := cause, record := p, stamp := none }) x
      let gone : State := { s with psu := { s.psu with passage := none, captureTimer := none }, axm := .cleared }
      (p.state = .onBridge ∨ p.state = .captured → vanishes →
        let q : Passage :=
          { p with state := .clearing, holds := p.holds.filter fun r => decide (r ∈ [.unlisted, .blocked, .probe, .overload]) }
        recordTaken r s = told .clearing none .cleared q (told p.state (some .clearing) .vanished q gone)) ∧
      (p.state = .clearing → light → clear → recordTaken r s = told .clearing none .cleared p gone) ∧
      (p.state ∈ [.arriving, .issuing, .done, .leaving] ∨ p.state = .clearing ∧ ¬ (light ∧ clear) ∨ p.state = .captured ∧ ¬ vanishes ∨
          p.state = .onBridge ∧ ¬ vanishes ∧ (p.intruder = true ∨ ¬ captures) →
        recordTaken r s = s) ∧
      (p.state = .onBridge → p.intruder = false → p.axles = none → captures →
        let q : Passage :=
          { p with
            state := .captured, holds := dropHold .unstable p.holds
            capture := some
              { weight := r.weight, scan := r.scan, stamp := s.ylu.timebase, time := s.cck.time, calCount := r.calCount } }
        let captured : State := { s with psu := { s.psu with passage := some q, captureTimer := none } }
        (s.axm.checking = false → s.axm.final = false →
          (requestOutcome captured q = .notMade → recordTaken r s = told .onBridge (some .captured) .capture q captured) ∧
          (requestOutcome captured q = .accepted →
            recordTaken r s = told .onBridge (some .captured) .capture q (issueTicket q captured)) ∧
          (∀ w, requestOutcome captured q = .refused w →
            let waiting : Passage := { q with holds := addHold w q.holds }
            recordTaken r s =
              told .onBridge (some .captured) .capture waiting
                { captured with psu := { captured.psu with passage := some waiting } })) ∧
        (s.axm.checking = true → s.axm.pairing = none → s.axm.queue = [] → p.identity = none →
          recordTaken r s = told .onBridge (some .captured) .capture q
            { captured with axm := { s.axm with
                checking := false, dwell := none, final := true
                list := numberGroups s.rnc.site.groupGap 0 s.axm.list } }))) ∧
  (∀ s : State, s.axm.checking = true →
      let x := s.rnc.site
      let pad (pad : PadState) (dwell : Option Dwell) : State := { s with axm := { s.axm with pad := pad, dwell := dwell } }
      let started (g : Int) (detached : Bool) : Dwell :=
        { count := 1, sum := g, first := [g].take x.trim, latest := [g].take x.trim, detached := detached }
      let left (d : Dwell) : Nat := d.count - 2 * x.trim
      let load (d : Dwell) : Option Int :=
        if x.minDwell ≤ left d then
          some (s.setInUse.division *
            roundDiv (d.sum - (d.first.take x.trim).sum - (d.latest.drop (d.latest.length - x.trim)).sum)
              (left d * 1000 * s.setInUse.division))
        else none
      let record (e : PendingAxle) (load : Option Int) (count : Nat) (resting : Bool) : AxleRecord :=
        { index := some (s.axm.list.length + 1), crossing := e.crossing, speed := e.speed
          spacing := if s.axm.afterReverse = true then none else
            match s.axm.list.getLast?.bind fun r => r.crossing, e.crossing, e.speed with
            | some t0, some t, some v => some (v * (t - t0).toNat / 1000000)
            | _, _, _ => none
          load := load, dwellCount := count
          flags :=
            { fast := e.speed.any fun v => decide (x.speedLimit < v)
              noPad := false, shortDwell := load.isNone, padOnly := e.padOnly, resting := resting }
          group := none }
      padResult none s = s ∧
      (∀ g : Int, s.axm.pad = .unknown →
        padResult (some g) s = if (x.padOn : Int) * 1000 < g then pad .active (some (started g true)) else pad .inactive none) ∧
      (∀ g : Int, s.axm.pad = .inactive →
        (g ≤ (x.padOn : Int) * 1000 → padResult (some g) s = s) ∧
        ((x.padOn : Int) * 1000 < g → s.axm.padIgnore = true → padResult (some g) s = pad .active (some (started g true))) ∧
        (∀ e rest, (x.padOn : Int) * 1000 < g → s.axm.padIgnore = false → s.axm.queue = e :: rest →
          padResult (some g) s =
            { s with axm := { s.axm with
              pad := .active, dwell := some (started g false), queue := { e with onPad := true } :: rest } }) ∧
        ((x.padOn : Int) * 1000 < g → s.axm.padIgnore = false → s.axm.queue = [] →
          padResult (some g) s =
            { s with axm := { s.axm with
              pad := .active, dwell := some (started g false)
              queue := [{ crossing := none, speed := none, onPad := true, padOnly := true }] } })) ∧
      (∀ (g : Int) (d : Dwell), s.axm.pad = .active → s.axm.dwell = some d →
        ((x.padOff : Int) * 1000 ≤ g → d.count < 65535 →
          padResult (some g) s = pad .active (some
            { d with
              count := d.count + 1, sum := d.sum + g, first := if d.first.length < x.trim then d.first ++ [g] else d.first
              latest := (d.latest ++ [g]).drop (d.latest.length + 1 - x.trim) })) ∧
        ((x.padOff : Int) * 1000 ≤ g → 65535 ≤ d.count → padResult (some g) s = s) ∧
        (g < (x.padOff : Int) * 1000 → d.detached = true → padResult (some g) s = pad .inactive none) ∧
        (∀ e rest, g < (x.padOff : Int) * 1000 → d.detached = false → s.axm.queue = e :: rest → s.axm.list.length < 12 →
          let r := record e (load d) (left d) false
          (load d = none → e.padOnly = true →
            padResult (some g) s = { s with axm := { s.axm with pad := .inactive, dwell := none, queue := rest } }) ∧
          (load d ≠ none ∨ e.padOnly = false →
            padResult (some g) s = offer (.axle s.passageNumber .closed r)
              { s with axm := { s.axm with
                pad := .inactive, dwell := none, queue := rest, list := s.axm.list ++ [r], afterReverse := false } }))) ∧
      (∀ (d : Dwell) (e : PendingAxle), s.axm.pairing = none → s.axm.queue = [e] → e.onPad = true → s.axm.dwell = some d →
        s.axm.list.length < 12 →
        let r := record e (load d) (left d) true
        captureAxles s = offer (.axle s.passageNumber .closed r)
          { s with axm := { s.axm with
            checking := false, dwell := none, queue := [], final := true, afterReverse := false
            list := numberGroups x.groupGap 0 (s.axm.list ++ [r]) } }))

/-! ## The vehicle, class and hold tables -/

/-- R90, R91: PUT_VEHICLE row by row. On DONE the entry of the tag is the directive's fields, every other tag's entry stands, and the
reply says ADDED or REPLACED with the number of entries. The two flag bytes are read as log 15 says, and another presence byte than 00h
or 01h is refused as log 46 says. -/
def Obligations.PutVehicleByTable : Prop :=
  (∀ (s : State) (now : Stamp) (ref : Byte) (tag : Tag) (cls present : Byte) (tare : BitVec 32) (allowed blocked : Byte), s.ready →
    let code : Byte := 0x0B
    let run := exec (.putVehicle now ref tag cls present tare allowed blocked) s
    (tag = 0 ∨ cls = 0 ∨ 16 < cls.toNat ∨ (present ≠ 0 ∧ present ≠ 1) ∨ firstOrSecond allowed = none ∨ firstOrSecond blocked = none ∨
        present = 1 ∧ (tare = 0 ∨ 200000 < tare.toNat) → run = .next (replied now ref code .badValue .nothing s)) ∧
    (∀ a b, tag ≠ 0 → 1 ≤ cls.toNat → cls.toNat ≤ 16 → firstOrSecond allowed = some a → firstOrSecond blocked = some b →
      let place (v : Vehicle) : Prop :=
        let vs := insertVehicle v s.vtb.vehicles
        let put : State := { s with vtb := { s.vtb with vehicles := vs } }
        ((∃ x ∈ s.vtb.vehicles, x.tag = tag) → run = .next (replied now ref code .done (.vehiclePut true vs.length) put)) ∧
        ((∀ x ∈ s.vtb.vehicles, x.tag ≠ tag) → s.vtb.vehicles.length < 256 →
          run = .next (replied now ref code .done (.vehiclePut false vs.length) put)) ∧
        ((∀ x ∈ s.vtb.vehicles, x.tag ≠ tag) → 256 ≤ s.vtb.vehicles.length →
          run = .next (replied now ref code .tableFull (.count s.vtb.vehicles.length) s))
      (present = 0 → place ⟨tag, cls.toNat, none, a, b⟩) ∧
      (present = 1 → 1 ≤ tare.toNat → tare.toNat ≤ 200000 →
        (s.stc.damaged.calibration = true → run = .next (replied now ref code .noCalibration .nothing s)) ∧
        (s.stc.damaged.calibration = false → tare.toNat % s.committed.division ≠ 0 →
          run = .next (replied now ref code .badValue .nothing s)) ∧
        (s.stc.damaged.calibration = false → tare.toNat % s.committed.division = 0 →
          place ⟨tag, cls.toNat, some tare.toNat, a, b⟩)))) ∧
  (∀ (v : Vehicle) (vs : List Vehicle) (tag : Tag),
    findVehicle tag (insertVehicle v vs) = if tag = v.tag then some v else findVehicle tag vs)

/-- R92, R93: DROP_VEHICLE removes the entry of a listed tag and CLEAR_VEHICLES every entry, each with its count; nothing else moves, a
bound passage and the open transactions included. -/
def Obligations.VehiclesAreDropped : Prop :=
  ∀ (s : State) (now : Stamp) (ref : Byte), s.ready →
    (∀ tag : Tag,
      (tag = 0 → exec (.dropVehicle now ref tag) s = .next (replied now ref 0x0C .badValue .nothing s)) ∧
      (tag ≠ 0 → (∀ x ∈ s.vtb.vehicles, x.tag ≠ tag) →
        exec (.dropVehicle now ref tag) s = .next (replied now ref 0x0C .notFound .nothing s)) ∧
      (tag ≠ 0 → (∃ x ∈ s.vtb.vehicles, x.tag = tag) →
        let left := s.vtb.vehicles.filter fun x => decide (x.tag ≠ tag)
        exec (.dropVehicle now ref tag) s =
          .next (replied now ref 0x0C .done (.count left.length) { s with vtb := { s.vtb with vehicles := left } }))) ∧
    exec (.clearVehicles now ref) s =
      .next (replied now ref 0x0D .done (.count s.vtb.vehicles.length) { s with vtb := { s.vtb with vehicles := [] } })

/-- R94: READ_VEHICLE answers the entry, whether its tare fits the committed division now, the hold-mask index, the mask bit and the
number of entries; an unlisted tag is NOT_FOUND with the last three. It changes nothing. A check not made and
an entry without a tare carry no check (log 35). -/
def Obligations.VehicleIsRead : Prop :=
  ∀ (s : State) (now : Stamp) (ref : Byte) (tag : Tag), s.ready →
    let index := holdIndex tag s.vtb.salt
    let bit := s.vtb.mask.getLsbD index.toNat
    (tag = 0 → exec (.readVehicle now ref tag) s = .next (replied now ref 0x0E .badValue .nothing s)) ∧
    (tag ≠ 0 → findVehicle tag s.vtb.vehicles = none →
      exec (.readVehicle now ref tag) s =
        .next (replied now ref 0x0E .notFound (.vehicle none none index bit s.vtb.vehicles.length) s)) ∧
    (∀ v, tag ≠ 0 → findVehicle tag s.vtb.vehicles = some v →
      exec (.readVehicle now ref tag) s =
        .next (replied now ref 0x0E .done
          (.vehicle (some v)
            (if s.stc.damaged.calibration = true then none else v.tare.map fun t => decide (t % s.committed.division = 0))
            index bit s.vtb.vehicles.length) s))

/-- R98: PUT_CLASS fills an entry whose seven fields lie in their ranges, empties it on the mark, answers what it was, and refuses the
rest, another mark than 00h or 01h by the model's choice (log 46); READ_CLASS answers the entry as it stands. -/
def Obligations.ClassesArePutAndRead : Prop :=
  ∀ (s : State) (now : Stamp) (ref number filled : Byte) (f : ClassFields), s.ready →
    let n := number.toNat
    let entry := s.vtb.classes.getD (n - 1) none
    let limitsOk := ∀ w ∈ [f.single, f.tandem, f.triple, f.quad, f.gross], 1 ≤ w.toNat ∧ w.toNat ≤ 200000
    let axlesOk := 1 ≤ f.minAxles.toNat ∧ f.minAxles.toNat ≤ f.maxAxles.toNat ∧ f.maxAxles.toNat ≤ 12
    let put (e : Option ClassEntry) : State := { s with vtb := { s.vtb with classes := s.vtb.classes.set (n - 1) e } }
    (n = 0 ∨ 16 < n →
      exec (.putClass now ref number filled f) s = .next (replied now ref 0x0F .badValue .nothing s) ∧
      exec (.readClass now ref number) s = .next (replied now ref 0x10 .badValue .nothing s)) ∧
    (1 ≤ n → n ≤ 16 → filled = 0 →
      exec (.putClass now ref number filled f) s = .next (replied now ref 0x0F .done (.classWas entry.isSome) (put none))) ∧
    (1 ≤ n → n ≤ 16 → filled = 1 → limitsOk → axlesOk →
      exec (.putClass now ref number filled f) s =
        .next (replied now ref 0x0F .done (.classWas entry.isSome) (put (some
          ⟨f.minAxles.toNat, f.maxAxles.toNat, f.single.toNat, f.tandem.toNat, f.triple.toNat, f.quad.toNat, f.gross.toNat⟩)))) ∧
    (1 ≤ n → n ≤ 16 → filled ≠ 0 → filled ≠ 1 ∨ ¬ limitsOk ∨ ¬ axlesOk →
      exec (.putClass now ref number filled f) s = .next (replied now ref 0x0F .badValue .nothing s)) ∧
    (1 ≤ n → n ≤ 16 → exec (.readClass now ref number) s = .next (replied now ref 0x10 .done (.classEntry entry) s))

/-- R99, R100: PUT_HOLD_MASK replaces mask and salt together and answers the number of mask bits set, or refuses a salt above 63; a tag's
hold-mask index is the exclusive-or of its six groups of bits and the salt, and its lookup reads the mask bit the index selects. -/
def Obligations.HoldMaskIsPutAndRead : Prop :=
  (∀ (tag : Tag) (salt : BitVec 6) (i : Nat), i < 6 →
    (holdIndex tag salt).getLsbD i =
      (tag.getLsbD i ^^ tag.getLsbD (i + 6) ^^ tag.getLsbD (i + 12) ^^ tag.getLsbD (i + 18) ^^ tag.getLsbD (i + 24) ^^
        (tag.getLsbD (i + 30) && decide (i < 2)) ^^ salt.getLsbD i)) ∧
  (∀ (s : State) (tag : Tag),
    (lookupTag s tag).index = holdIndex tag s.vtb.salt ∧
    (lookupTag s tag).probe = s.vtb.mask.getLsbD (holdIndex tag s.vtb.salt).toNat) ∧
  (∀ (s : State) (now : Stamp) (ref : Byte) (mask : BitVec 64) (salt : Byte), s.ready →
      (63 < salt.toNat → exec (.putHoldMask now ref mask salt) s = .next (replied now ref 0x11 .badValue .nothing s)) ∧
      (salt.toNat ≤ 63 →
        exec (.putHoldMask now ref mask salt) s =
          .next (replied now ref 0x11 .done (.count ((List.range 64).countP fun i => mask.getLsbD i))
            { s with vtb := { s.vtb with mask := mask, salt := BitVec.ofNat 6 salt.toNat } })))

/-! ## The passage -/

/-- R117, R118 (the two enumerated bytes are read as log 15 says, the report's order as log 10): IDENTIFY row by row. Before capture it
binds the tag with what its lookup hands on and reports BOUND; after capture the passage is bound as well, with the axle result where the
list is final (R86). R82 to R85: how a final list is grouped, and the judgement of a group, the verdict, the worst excess and the flags. -/
def Obligations.IdentifyBindsThePassage : Prop :=
  (∀ (s : State) (now : Stamp) (ref : Byte) (tag : Tag) (kind onePass : Byte), s.ready →
    let code : Byte := 0x12
    let run := exec (.identify now ref tag kind onePass) s
    (tag = 0 ∨ kindOf kind = none ∨ firstOrSecond onePass = none → run = .next (replied now ref code .badValue .nothing s)) ∧
    (∀ k o, tag ≠ 0 → kindOf kind = some k → firstOrSecond onePass = some o →
      (s.psu.passage = none → run = .next (replied now ref code .noPassage .nothing s)) ∧
      (∀ p, s.psu.passage = some p →
        (p.identity ≠ none → run = .next (replied now ref code .alreadyBound .nothing s)) ∧
        (p.identity = none → p.state ∉ [.arriving, .onBridge, .captured] →
          run = .next (replied now ref code .wrongState .nothing s)) ∧
        (let l := lookupTag s tag
         let identity : Identity :=
          { tag := tag, kind := k, onePass := o, listed := l.listed, cls := l.cls, tare := l.tare
            presetAllowed := l.presetAllowed, tareOffDivision := l.tareOffDivision }
         let unlisted := if l.listed = false ∧ s.rnc.site.admitUnlisted = false then addHold .unlisted p.holds else p.holds
         let blocked := if l.listed = true ∧ l.blocked = true then addHold .blocked unlisted else unlisted
         let holds := if l.probe = true then addHold .probe blocked else blocked
         let p' : Passage := { p with identity := some identity, holds := holds }
         (p.identity = none → p.state = .arriving ∨ p.state = .onBridge → p.capture = none → p.axles = none →
          run = .next (taken now
            (offer (.passage { after := some p.state, before := some p.state, cause := .bound, record := p', stamp := none })
              (replyTo ref code .done (.bound l holds p.number) { s with psu := { s.psu with passage := some p' } })))) ∧
         (p.identity = none → p.state ∈ [.arriving, .onBridge, .captured] →
          ∃ t q, run = .next t ∧ t.psu.passage = some q ∧ q.number = p.number ∧ q.identity = some identity ∧
            q.axles = (verdictOf s { p with identity := some identity }).or p.axles))))) ∧
  (∀ (s : State) (p : Passage),
    (∀ i c, p.identity = some i → p.capture = some c → s.axm.final = true →
      verdictOf s p = some (axleResult s.axm.list s.axm.overflow
        (i.cls.bind fun n => s.vtb.classes.getD (n - 1) none) c.weight)) ∧
    (p.identity = none ∨ p.capture = none ∨ s.axm.final = false → verdictOf s p = none)) ∧
  (∀ (gap : Nat) (list : List AxleRecord),
    let final := numberGroups gap 0 list
    (final.map fun r => { r with group := none }) = (list.map fun r => { r with group := none }) ∧
    (∀ r, final.head? = some r → r.group = some 1) ∧
    ∀ k a b, final[k]? = some a → final[k + 1]? = some b →
      b.group = if (∃ d, b.spacing = some d ∧ d < gap) then a.group else a.group.map fun n => n + 1) ∧
  (∀ (entry : Option ClassEntry) (axles : List AxleRecord),
    let n := axles.length
    (∀ c, entry = some c → 1 ≤ n → n ≤ 4 → (∀ r ∈ axles, r.flags.fast = false ∧ r.load ≠ none) →
      let load := (axles.filterMap fun r => r.load).sum
      let excess := load - (([c.single, c.tandem, c.triple, c.quad].getD (n - 1) 0 : Nat) : Int)
      judgeGroup entry axles =
        { kind := [GroupKind.single, .tandem, .triple, .quad].getD (n - 1) .unrated
          axles := axles.filterMap fun r => r.index
          load := some load, excess := some excess, verdict := if 0 < excess then .exceeded else .ok }) ∧
    (entry = none ∨ 4 < n ∨ (∃ r ∈ axles, r.flags.fast = true ∨ r.load = none) →
      (judgeGroup entry axles).verdict = .unrated ∧ (judgeGroup entry axles).load = none ∧
        (judgeGroup entry axles).excess = none)) ∧
  (∀ (list : List AxleRecord) (overflow : Bool) (entry : Option ClassEntry) (weight : Int),
    let r := axleResult list overflow entry weight
    let number := if overflow = true then 13 else list.length
    r.groups = ((List.range r.groups.length).map fun k =>
      judgeGroup entry (list.filter fun x => decide (x.group = some (k + 1)))) ∧
    r.summary.axleCount = list.length ∧ r.summary.groupCount = r.groups.length ∧
    (r.summary.verdict = .exceeded ↔ ∃ g ∈ r.groups, g.verdict = .exceeded) ∧
    (r.summary.verdict = .ok ↔ overflow = false ∧ list ≠ [] ∧ ∀ g ∈ r.groups, g.verdict = .ok) ∧
    (r.summary.worstExcess = none ↔ ∀ g ∈ r.groups, g.excess = none) ∧
    (∀ x, r.summary.worstExcess = some x →
      (∃ g ∈ r.groups, g.excess = some x) ∧ ∀ g ∈ r.groups, ∀ y, g.excess = some y → y ≤ x) ∧
    (entry = none → r.axleCountFlag = false ∧ r.grossOver = false) ∧
    (∀ c, entry = some c →
      (r.axleCountFlag = true ↔ number < c.minAxles ∨ c.maxAxles < number) ∧ (r.grossOver = true ↔ (c.gross : Int) < weight)))

/-- R121 (the report's order: log 10): RELEASE_HOLD row by row. On DONE the reason leaves the hold set, the reply carries the set, and the
change is reported; only a pre-ticket hold released in CAPTURED leads further, to the ticket request. -/
def Obligations.HoldIsReleased : Prop :=
  ∀ (s : State) (now : Stamp) (ref : Byte) (number : BitVec 16) (reason : Byte), s.ready →
    let code : Byte := 0x13
    let run := exec (.releaseHold now ref number reason) s
    (reason = 0 ∨ 9 < reason.toNat → run = .next (replied now ref code .badValue .nothing s)) ∧
    (∀ r, reasonOf reason = some r →
      (s.psu.passage = none → run = .next (replied now ref code .noPassage .nothing s)) ∧
      (∀ p, s.psu.passage = some p →
        (p.number ≠ number → run = .next (replied now ref code .noPassage .nothing s)) ∧
        (p.number = number → r ∈ [.unstable, .tableFull, .ringBlocked, .notVerified, .storeFault] →
          run = .next (replied now ref code .badValue .nothing s)) ∧
        (p.number = number → r ∈ [.unlisted, .blocked, .probe, .overload] → r ∉ p.holds →
          run = .next (replied now ref code .notFound .nothing s)) ∧
        (let p' : Passage := { p with holds := dropHold r p.holds }
         (p.number = number → r ∈ [.probe, .overload] ∨ r ∈ [.unlisted, .blocked] ∧ p.state ≠ .captured → r ∈ p.holds →
          run = .next (taken now
            (offer (.passage { after := some p.state, before := some p.state, cause := .holdChange, record := p', stamp := none })
              (replyTo ref code .done (.holds p'.holds) { s with psu := { s.psu with passage := some p' } })))) ∧
         (p.number = number → r ∈ [.unlisted, .blocked] → r ∈ p.holds →
          ∃ t q, run = .next t ∧ t.psu.passage = some q ∧ q.number = p.number ∧ r ∉ q.holds))))

/-- R125, R81, R114 (the report's order: log 10): ABANDON row by row. On DONE the waits leave the hold set, the capture timer and checking
end, and CLEARING is reported; a passage whose loops are clear and whose bridge is empty, below 20 divisions of the set in use (log 27), is
over at once. -/
def Obligations.PassageIsAbandoned : Prop :=
  ∀ (s : State) (now : Stamp) (ref : Byte) (number : BitVec 16), s.ready →
    let code : Byte := 0x14
    let run := exec (.abandon now ref number) s
    (s.psu.passage = none → run = .next (replied now ref code .noPassage .nothing s)) ∧
    (∀ p, s.psu.passage = some p →
      (p.number ≠ number → run = .next (replied now ref code .noPassage .nothing s)) ∧
      (p.number = number → p.state = .issuing → run = .next (replied now ref code .busy .nothing s)) ∧
      (p.number = number → p.state ∈ [.done, .leaving, .clearing] → run = .next (replied now ref code .wrongState .nothing s)) ∧
      (p.number = number → p.state ∈ [.arriving, .onBridge, .captured] →
        let p' : Passage :=
          { p with state := .clearing, holds := p.holds.filter fun r => decide (r ∈ [.unlisted, .blocked, .probe, .overload]) }
        let ended := s.ylu.entryLoop.accepted = some false ∧ s.ylu.exitLoop.accepted = some false ∧
          s.latestWeight < 20 * (s.setInUse.division : Int)
        let cleared : State :=
          offer (.passage
              { after := some .clearing, before := some p.state, cause := .abandoned, record := p', stamp := none })
            { replyTo ref code .done .nothing s with
              psu := { s.psu with passage := some p', captureTimer := none }
              axm := if p.state = .captured then s.axm
                else { s.axm with checking := false, pairing := none, queue := [], pad := .unknown, dwell := none } }
        (¬ ended → run = .next (taken now cleared)) ∧
        (ended → run = .next (taken now
          (offer (.passage { after := none, before := some .clearing, cause := .cleared, record := p', stamp := none })
            { cleared with psu := { s.psu with passage := none, captureTimer := none }, axm := .cleared })))))

/-! ## Tickets and transactions -/

/-- R131, R148: RELEASE_TICKET and PURGE_TRANSACTION row by row; the last row hands the update to the Store Controller and holds the
directive queue, and no other row changes anything. -/
def Obligations.ReleaseAndPurgeAreHanded : Prop :=
  ∀ (s : State) (now : Stamp) (ref : Byte), s.ready →
    (∀ number : BitVec 32,
      let posted := ∃ t, some t ∈ s.stc.store.ticket.ring ∧ t.number = number
      exec (.releaseTicket now ref 0) s = .next (replied now ref 0x15 .badValue .nothing s) ∧
      (number ≠ 0 → s.stc.fault = true →
        exec (.releaseTicket now ref number) s = .next (replied now ref 0x15 .storeFault .nothing s)) ∧
      (number ≠ 0 → s.stc.fault = false → ¬ posted →
        exec (.releaseTicket now ref number) s = .next (replied now ref 0x15 .notFound .nothing s)) ∧
      (number ≠ 0 → s.stc.fault = false → posted →
        exec (.releaseTicket now ref number) s =
          .next (holding now ref (.releaseTicket number)
            { s with stc := { s.stc with queue := s.stc.queue ++ [.release number] } }))) ∧
    (∀ tag : Tag,
      let open_ := ∃ e ∈ s.stc.store.transaction.table, e.tag = tag
      let bound := ∃ p i, s.psu.passage = some p ∧ p.identity = some i ∧ i.tag = tag
      exec (.purgeTransaction now ref 0) s = .next (replied now ref 0x18 .badValue .nothing s) ∧
      (tag ≠ 0 → s.stc.fault = true →
        exec (.purgeTransaction now ref tag) s = .next (replied now ref 0x18 .storeFault .nothing s)) ∧
      (tag ≠ 0 → s.stc.fault = false → ¬ open_ →
        exec (.purgeTransaction now ref tag) s = .next (replied now ref 0x18 .notFound .nothing s)) ∧
      (tag ≠ 0 → s.stc.fault = false → open_ → bound →
        exec (.purgeTransaction now ref tag) s = .next (replied now ref 0x18 .busy .nothing s)) ∧
      (tag ≠ 0 → s.stc.fault = false → open_ → ¬ bound →
        exec (.purgeTransaction now ref tag) s =
          .next (holding now ref (.purgeTransaction tag)
            { s with stc := { s.stc with queue := s.stc.queue ++ [.purge tag] } })))

/-- R130, R150: FETCH_TICKET sends the TICKET frame of the slot that holds the number, marked RESENT, before its reply; READ_TRANSACTION
answers the open entry with the counts; neither changes the store. -/
def Obligations.TicketsAndTransactionsAreRead : Prop :=
  ∀ (s : State) (now : Stamp) (ref : Byte), s.ready →
    let usable := s.stc.damaged.ticket = false ∧ s.stc.damaged.transaction = false ∧ s.stc.store.ticket.next ≠ 0
    let ring := s.stc.store.ticket.ring
    let table := s.stc.store.transaction.table
    (∀ number : BitVec 32,
      exec (.fetchTicket now ref 0) s = .next (replied now ref 0x16 .badValue .nothing s) ∧
      (number ≠ 0 → ¬ usable → exec (.fetchTicket now ref number) s = .next (replied now ref 0x16 .storeFault .nothing s)) ∧
      (number ≠ 0 → usable → (∀ t, some t ∈ ring → t.number ≠ number) →
        exec (.fetchTicket now ref number) s = .next (replied now ref 0x16 .notFound .nothing s)) ∧
      (∀ i t, number ≠ 0 → usable → ring.getD i none = some t → t.number = number →
        (∀ j t', j < i → ring.getD j none = some t' → t'.number ≠ number) →
        exec (.fetchTicket now ref number) s = .next (replied now ref 0x16 .done (.slot i) (offer (.ticket true i t) s)))) ∧
    (∀ tag : Tag,
      exec (.readTransaction now ref 0) s = .next (replied now ref 0x17 .badValue .nothing s) ∧
      (tag ≠ 0 → ¬ usable → exec (.readTransaction now ref tag) s = .next (replied now ref 0x17 .storeFault .nothing s)) ∧
      (tag ≠ 0 → usable → (∀ e ∈ table, e.tag ≠ tag) →
        exec (.readTransaction now ref tag) s =
          .next (replied now ref 0x17 .notFound (.transaction none table.length s.counters) s)) ∧
      (∀ e, tag ≠ 0 → usable → findOpen tag table = some e →
        exec (.readTransaction now ref tag) s =
          .next (replied now ref 0x17 .done (.transaction (some e) table.length s.counters) s)))

/-! ## Calibration -/

/-- R157, R158, R167: ENTER_CAL row by row, the staged set beginning as a copy of the committed one; LEAVE_CAL discards it and puts the
committed set in use with a zero reload, answering the number of changed parameters. -/
def Obligations.CalibrationIsEnteredAndLeft : Prop :=
  ∀ (s : State) (now : Stamp) (ref : Byte), s.ready →
    let area := s.stc.store.calibration
    let unaudited := area.newest - area.mark
    exec (.enterCal now ref) s = .next (
      if s.rnc.runState ≠ .run then replied now ref 0x19 .wrongState .nothing s
      else if s.clu.staged ≠ none then replied now ref 0x19 .wrongState .nothing s
      else if s.ylu.calSwitch.accepted ≠ some true then replied now ref 0x19 .switchOpen .nothing s
      else if s.psu.passage ≠ none then replied now ref 0x19 .busy .nothing s
      else if s.vfu.session ≠ none then replied now ref 0x19 .busy .nothing s
      else replied now ref 0x19 .done (.entered area.count unaudited (48 - unaudited))
        { s with clu := { staged := some s.committed, openingRecorded := false } }) ∧
    (s.clu.staged = none → exec (.leaveCal now ref) s = .next (replied now ref 0x1D .wrongState .nothing s)) ∧
    (∀ staged, s.clu.staged = some staged →
      exec (.leaveCal now ref) s =
        .next (replied now ref 0x1D .done (.count (changedParams staged s.committed).length)
          (setChanged staged true { s with clu := { staged := none, openingRecorded := false } })))

/-- R22, R34, R65, R81 with log 14: what a change of the set in use does to the decks and to axle checking. -/
def Obligations.SetInUseChanges : Prop :=
  ∀ (s : State) (old : CalSet) (reload : Bool),
    let new := s.setInUse
    let reloads := reload = true ∨ old.decks.map (·.mask) ≠ new.decks.map (·.mask) ∨ old.division ≠ new.division ∨
      old.maxLoad ≠ new.maxLoad
    let empties := old.filterLength ≠ new.filterLength ∨ old.stabilityWindow ≠ new.stabilityWindow
    setChanged old reload s =
      { s with
        wge := { s.wge with
          decks := s.wge.decks.mapIdx fun i deck =>
            if (new.deck i).mask = 0 then none
            else match deck with
              | none => some
                  { zero := (new.deck i).zeroCal, initialZero := none, filter := [], stability := [], value := none, hold := 0
                    faulted := false, state := .noZero, stable := false, overFlag := false, trackRun := 0, zeroLimit := false }
              | some d => some (
                  if reloads then
                    { d with
                      initialZero := none, filter := [], stability := [], value := none, stable := false, state := .noZero
                      hold := 0, trackRun := 0, faulted := false, overFlag := false }
                  else if empties then { d with filter := [], stability := [], value := none, stable := false }
                  else d) }
        axm :=
          if old.padDeck = false ∧ new.padDeck = true ∧
              (∃ p, s.psu.passage = some p ∧ (p.state = .arriving ∨ p.state = .onBridge)) then
            { Axm.cleared with checking := true }
          else if old.padDeck = true ∧ new.padDeck = false ∧ s.axm.checking = true then
            { s.axm with checking := false, pairing := none, queue := [], pad := .unknown, dwell := none }
          else s.axm }

/-- R159, R155: SET_PARAM row by row. On DONE the staged set holds the value in that parameter and every other as before, its readers take
the change, and the reply carries the value before, the value after and the number of changed parameters. The identifiers and ranges are
those of R155's table; another byte than 00h beside a global parameter is out of range (log 16), and PAD_DECK and IN_BRIDGE take 1 and 0
by the model's choice (log 48). -/
def Obligations.ParameterIsSet : Prop :=
  (∀ (s : State) (now : Stamp) (ref identifier place : Byte) (value : BitVec 32), s.ready →
    let run := exec (.setParam now ref identifier place value) s
    (s.clu.staged = none → run = .next (replied now ref 0x1A .wrongState .nothing s)) ∧
    (s.clu.staged ≠ none → paramOf identifier place = none → run = .next (replied now ref 0x1A .badValue .nothing s)) ∧
    (∀ p, s.clu.staged ≠ none → paramOf identifier place = some p → p.inRange value.toInt = false →
      run = .next (replied now ref 0x1A .badValue .nothing s)) ∧
    (∀ p staged, s.clu.staged = some staged → paramOf identifier place = some p → p.inRange value.toInt = true →
      let next := staged.set value.toInt p
      run =
        .next (replied now ref 0x1A .done
          (.paramSet (staged.get p) (next.get p) (changedParams next s.committed).length)
          (setChanged staged false { s with clu := { s.clu with staged := some next } })))) ∧
  (∀ (c : CalSet) (v : Int) (p q : ParamId), c.decks.length = 4 → c.cells.length = 16 → p ∈ allParams → q ∈ allParams →
    p.inRange v = true → (c.set v p).get q = if q = p then v else c.get q) ∧
  (∀ identifier place : Byte,
    let n := place.toNat
    let global (p : GlobalParam) : Option ParamId := if n = 0 then some (.global p) else none
    let deck (p : DeckParam) : Option ParamId := if n < 4 then some (.deck p n) else none
    let cell (p : CellParam) : Option ParamId := if 1 ≤ n ∧ n ≤ 16 then some (.cell p n) else none
    paramOf identifier place = match identifier.toNat with
      | 1 => global .maxLoad
      | 2 => global .division
      | 3 => global .filterLength
      | 4 => global .stabilityWindow
      | 5 => global .motionBand
      | 6 => global .zeroTrackWindow
      | 7 => global .warmupLength
      | 8 => global .padDeck
      | 9 => deck .cellMask
      | 10 => deck .inBridge
      | 11 => deck .zeroCal
      | 12 => cell .offset
      | 13 => cell .gain
      | 14 => cell .corner
      | 15 => cell .refCount
      | 16 => cell .refTolerance
      | _ => none) ∧
  (∀ (p : ParamId) (v : Int),
    p.inRange v = true ↔ match p with
      | .global .maxLoad => 1000 ≤ v ∧ v ≤ 200000
      | .global .division => v ∈ [1, 2, 5, 10, 20, 50, 100]
      | .global .filterLength => v ∈ [1, 2, 4, 8, 16]
      | .global .stabilityWindow => 2 ≤ v ∧ v ≤ 32
      | .global .motionBand => 1 ≤ v ∧ v ≤ 10
      | .global .zeroTrackWindow => 8 ≤ v ∧ v ≤ 255
      | .global .warmupLength => v ∈ [64, 128, 256, 512, 1024, 2048, 4096]
      | .global .padDeck => v = 0 ∨ v = 1
      | .deck .cellMask _ => 0 ≤ v ∧ v ≤ 65535
      | .deck .inBridge _ => v = 0 ∨ v = 1
      | .deck .zeroCal _ => -2000000000 ≤ v ∧ v ≤ 2000000000
      | .cell .offset _ => -8388608 ≤ v ∧ v ≤ 8388607
      | .cell .gain _ => 0 ≤ v ∧ v ≤ 16777215
      | .cell .corner _ => 16384 ≤ v ∧ v ≤ 49152
      | .cell .refCount _ => -8388608 ≤ v ∧ v ≤ 8388607
      | .cell .refTolerance _ => 1 ≤ v ∧ v ≤ 10000)

/-- R160, R171: READ_PARAM and READ_TRAIL row by row; neither changes anything. -/
def Obligations.CalibrationIsRead : Prop :=
  (∀ (s : State) (now : Stamp) (ref identifier place selection : Byte), s.ready →
    let run := exec (.readParam now ref identifier place selection) s
    let count := s.stc.store.calibration.count
    (paramOf identifier place = none ∨ selection ≠ 1 ∧ selection ≠ 2 →
      run = .next (replied now ref 0x1B .badValue .nothing s)) ∧
    (∀ p, paramOf identifier place = some p → selection = 1 → s.clu.staged = none →
      run = .next (replied now ref 0x1B .wrongState .nothing s)) ∧
    (∀ p staged, paramOf identifier place = some p → selection = 1 → s.clu.staged = some staged →
      run = .next (replied now ref 0x1B .done
        (.paramRead (staged.get p) (some (decide (staged.get p ≠ s.committed.get p)))
          (some (changedParams staged s.committed).length) count) s)) ∧
    (∀ p, paramOf identifier place = some p → selection = 2 → s.stc.damaged.calibration = true →
      run = .next (replied now ref 0x1B .noCalibration .nothing s)) ∧
    (∀ p, paramOf identifier place = some p → selection = 2 → s.stc.damaged.calibration = false → s.clu.staged = none →
      run = .next (replied now ref 0x1B .done (.paramRead (s.committed.get p) none none count) s)) ∧
    (∀ p staged, paramOf identifier place = some p → selection = 2 → s.stc.damaged.calibration = false →
      s.clu.staged = some staged →
      run = .next (replied now ref 0x1B .done
        (.paramRead (s.committed.get p) (some (decide (staged.get p ≠ s.committed.get p)))
          (some (changedParams staged s.committed).length) count) s))) ∧
  (∀ (s : State) (now : Stamp) (ref : Byte) (first : BitVec 32), s.ready →
    let area := s.stc.store.calibration
    let found := area.trail.filter fun e => decide (first.toNat ≤ e.sequence)
    (s.stc.damaged.calibration = true →
      exec (.readTrail now ref first) s = .next (replied now ref 0x1E .noCalibration .nothing s)) ∧
    (s.stc.damaged.calibration = false →
      exec (.readTrail now ref first) s =
        .next (replied now ref 0x1E .done
          (.trail (found.take 8) (area.trail.head?.map fun e => e.sequence) area.newest area.mark (decide (8 < found.length)))
          s)))

/-- R162, R163: COMMIT_CAL row by row; the last row hands the commit update, with one trail entry for each changed parameter, to the Store
Controller and holds the directive queue. The flaw a refusal names is the first of R162's cross-field conditions that fails, with the
lowest node or deck. -/
def Obligations.CommitIsJudgedAndHanded : Prop :=
  (∀ (s : State) (now : Stamp) (ref : Byte), s.ready →
    let run := exec (.commitCal now ref) s
    let area := s.stc.store.calibration
    let unaudited := area.newest - area.mark
    (s.clu.staged = none → run = .next (replied now ref 0x1C .wrongState .nothing s)) ∧
    (∀ staged, s.clu.staged = some staged →
      let changed := changedParams staged s.committed
      let k := changed.length
      let closed := s.ylu.calSwitch.accepted = some true
      (¬ closed → run = .next (replied now ref 0x1C .switchOpen .nothing s)) ∧
      (closed → s.cck.isSet = false → run = .next (replied now ref 0x1C .clockUnset .nothing s)) ∧
      (closed → s.cck.isSet = true → s.psu.passage ≠ none → run = .next (replied now ref 0x1C .busy .nothing s)) ∧
      (closed → s.cck.isSet = true → s.psu.passage = none →
        (∀ flaw, commitFlaw staged area.count area.newest k = some flaw →
          run = .next (replied now ref 0x1C .badValue (.commitFlaw flaw) s)) ∧
        (commitFlaw staged area.count area.newest k = none →
          (48 < k + unaudited → run = .next (replied now ref 0x1C .trailFull (.trailFull k unaudited) s)) ∧
          (k + unaudited ≤ 48 → k = 0 → run = .next (replied now ref 0x1C .badValue .nothing s)) ∧
          (k + unaudited ≤ 48 → k ≠ 0 → s.stc.fault = true → run = .next (replied now ref 0x1C .storeFault .nothing s)) ∧
          (k + unaudited ≤ 48 → k ≠ 0 → s.stc.fault = false →
            let entries := changed.mapIdx fun i p =>
              ({ sequence := area.newest + (i + 1), calCount := area.count + 1, param := p, oldValue := s.committed.get p
                 newValue := staged.get p, time := s.cck.time } : TrailEntry)
            run = .next (holding now ref .commitCal
              { s with
                clu := { s.clu with openingRecorded := false }
                stc := { s.stc with queue := s.stc.queue ++ [.commit staged entries] } })))))) ∧
  (∀ (c : CalSet) (count newest k : Nat),
    let twice (n : Nat) : Prop :=
      ∃ i j, i < j ∧ j < 4 ∧ (c.deck i).mask.getLsbD (n - 1) = true ∧ (c.deck j).mask.getLsbD (n - 1) = true
    let big (i : Nat) : Prop := 8 < (List.range 16).countP fun b => (c.deck i).mask.getLsbD b
    let flaw := commitFlaw c count newest k
    (∀ n, 1 ≤ n → n ≤ 16 → twice n → (∀ m, 1 ≤ m → m < n → ¬ twice m) → flaw = some (.nodeInTwoDecks n)) ∧
    ((∀ n, 1 ≤ n → n ≤ 16 → ¬ twice n) →
      (∀ i, i < 4 → big i → (∀ j, j < i → ¬ big j) → flaw = some (.deckSize i)) ∧
      ((∀ i, i < 4 → ¬ big i) →
        flaw =
          if ¬ (500 * c.division ≤ c.maxLoad ∧ c.maxLoad ≤ 10000 * c.division) then some .capacityRatio
          else if c.padDeck = true ∧ (c.deck 0).mask = 0 then some .padEmpty
          else if count = 4294967295 then some .countSpent
          else if 4294967295 < newest + k then some .sequenceSpent
          else none)))

/-! ## Audits -/

/-- R177, R190: OPEN_AUDIT row by row, the session record it makes and what it answers; ABORT_AUDIT discards an open session with its
points and leaves the mark, the reasons and the store as they were. -/
def Obligations.AuditIsOpenedAndAborted : Prop :=
  ∀ (s : State) (now : Stamp) (ref : Byte), s.ready →
    let opening := if s.cck.isSet = true then some s.cck.time else none
    let area := s.stc.store.calibration
    exec (.openAudit now ref) s = .next (
      if s.rnc.runState ≠ .run then replied now ref 0x1F .wrongState .nothing s
      else if s.vfu.session ≠ none then replied now ref 0x1F .wrongState .nothing s
      else if s.clu.staged ≠ none then replied now ref 0x1F .busy .nothing s
      else if s.psu.passage ≠ none then replied now ref 0x1F .busy .nothing s
      else replied now ref 0x1F .done (.auditOpened opening area.count s.reasonSet (area.newest - area.mark))
        { s with vfu := { s.vfu with session := some { opening := opening, points := [], check := none } } }) ∧
    (s.vfu.session = none → exec (.abortAudit now ref) s = .next (replied now ref 0x23 .wrongState .nothing s)) ∧
    (∀ session, s.vfu.session = some session →
      exec (.abortAudit now ref) s =
        .next (replied now ref 0x23 .done (.count session.points.length) { s with vfu := { s.vfu with session := none } }))

/-- R179, R180, R181: CAPTURE_POINT row by row. On DONE the reading is the quantity rounded to d/10, the error is the reading less the
declared load, and the point passes when its magnitude is at most half, one or one and a half d by the load's step. -/
def Obligations.LoadPointIsCaptured : Prop :=
  ∀ (s : State) (now : Stamp) (ref target : Byte) (declared : BitVec 32), s.ready →
    let code : Byte := 0x20
    let run := exec (.capturePoint now ref target declared) s
    (4 ≤ target.toNat ∧ target ≠ 0xFF ∨ 200000 < declared.toNat → run = .next (replied now ref code .badValue .nothing s)) ∧
    (∀ t, targetOf target = some t → declared.toNat ≤ 200000 →
      let missing := ∃ i, t = .deck i ∧ (s.committed.deck i).mask = 0
      (s.vfu.session = none → run = .next (replied now ref code .wrongState .nothing s)) ∧
      (∀ session, s.vfu.session = some session →
        (missing → run = .next (replied now ref code .notFound .nothing s)) ∧
        (¬ missing → s.psu.passage ≠ none → run = .next (replied now ref code .busy .nothing s)) ∧
        (¬ missing → s.psu.passage = none → 12 ≤ session.points.length →
          run = .next (replied now ref code .listFull .nothing s)) ∧
        (¬ missing → s.psu.passage = none → session.points.length < 12 →
          (s.wge.latest = none → run = .next (replied now ref code .unstable .nothing s)) ∧
          (∀ r, s.wge.latest = some r →
            let point (grams : Int) : Prop :=
              let d := s.committed.division
              let w := declared.toNat
              let reading := roundDiv grams (100 * d) * d
              let mpe := if w ≤ 500 * d then 5 * d else if w ≤ 2000 * d then 10 * d else 15 * d
              let made : Point :=
                { index := session.points.length + 1
                  pass := decide ((reading - 10 * w).natAbs ≤ mpe)
                  body := .load { target := t, declared := w, reading := reading, error := reading - 10 * w, mpe := mpe } }
              run = .next (replied now ref code .done (.point made)
                { s with vfu := { s.vfu with session := some { session with points := session.points ++ [made] } } })
            (t = .bridge → r.stable = false → run = .next (replied now ref code .unstable .nothing s)) ∧
            (t = .bridge → r.stable = true → point (bridgeGross (bridgeDecks r.decks))) ∧
            (∀ i, t = .deck i →
              ((∀ v, r.decks.getD i none = some v → v.state ≠ .valid ∨ v.stable = false ∨ v.value = none) →
                run = .next (replied now ref code .unstable .nothing s)) ∧
              (∀ v f, r.decks.getD i none = some v → v.state = .valid → v.stable = true → v.value = some f → point f))))))

/-- R182, R183, R184 (the timeout's own row: log 3): CHECK_REFERENCE row by row, and the check it begins; the 32nd handoff with fewer than
eight samples judges it FAIL with NO_REFERENCE, tells the node NORMAL and answers; eight samples are judged by their rounded mean. -/
def Obligations.ReferenceIsChecked : Prop :=
  (∀ (s : State) (now : Stamp) (ref cell : Byte), s.ready →
    let code : Byte := 0x21
    let n := cell.toNat
    let run := exec (.checkReference now ref cell) s
    (n = 0 ∨ 16 < n → run = .next (replied now ref code .badValue .nothing s)) ∧
    (1 ≤ n → n ≤ 16 → s.vfu.session = none → run = .next (replied now ref code .wrongState .nothing s)) ∧
    (∀ session, 1 ≤ n → n ≤ 16 → s.vfu.session = some session →
      (n ∉ s.committed.pollList → run = .next (replied now ref code .notFound .nothing s)) ∧
      (n ∈ s.committed.pollList → s.psu.passage ≠ none → run = .next (replied now ref code .busy .nothing s)) ∧
      (n ∈ s.committed.pollList → s.psu.passage = none → 12 ≤ session.points.length →
        run = .next (replied now ref code .listFull .nothing s)) ∧
      (n ∈ s.committed.pollList → s.psu.passage = none → session.points.length < 12 →
        run = .next (holding now ref (.checkReference cell)
          { s with
            clc := s.clc.setNode n { s.clc.node n with mode := .reference, delivered := false }
            vfu := { s.vfu with
              session := some { session with check := some { cell := n, samples := 0, sum := 0, handoffs := 0 } } } })))) ∧
  (∀ (s : State) (now : Stamp) (ref cell : Byte) (session : Session) (check : ReferenceCheck), s.held ref (.checkReference cell) →
    s.vfu.session = some session → session.check = some check →
    let cal := s.committed.cell check.cell
    let point : Point :=
      { index := session.points.length + 1
        pass := false
        body := .reference
          { cell := check.cell, samples := check.samples, mean := none, refCount := cal.refCount, tolerance := cal.refTolerance
            difference := none, noReference := true } }
    (check.handoffs = 31 → check.samples < 8 →
      exec (.referenceCheckTimeout now) s =
        .next (replied now ref 0x21 .done (.point point) (freed
          { s with
            clc := s.clc.setNode check.cell { s.clc.node check.cell with mode := .normal, delivered := false }
            vfu := { s.vfu with
              session := some { session with points := session.points ++ [point], check := none } } }))) ∧
    (check.handoffs < 31 ∨ 8 ≤ check.samples → exec (.referenceCheckTimeout now) s = .next (taken now s))) ∧
  (∀ (c : CalSet) (check : ReferenceCheck) (index : Nat), 8 ≤ check.samples →
    let mean := roundDiv check.sum 8
    let difference := mean - (c.cell check.cell).refCount
    referencePoint c check index =
      { index := index
        pass := decide (difference.natAbs ≤ (c.cell check.cell).refTolerance)
        body := .reference
          { cell := check.cell, samples := check.samples, mean := some mean, refCount := (c.cell check.cell).refCount
            tolerance := (c.cell check.cell).refTolerance, difference := some difference, noReference := false } })

/-- R185, R186, R187, R151: CLOSE_AUDIT row by row; the last row hands the numbered certificate, with the new audit mark, to the Store
Controller and holds the queue. The verdict is PASS exactly with a zero point, two load points above zero and no failed point; the summary
holds the causes, the counts, the error of greatest magnitude, the earliest where several share it, and the opening time. -/
def Obligations.AuditIsClosed : Prop :=
  (∀ (s : State) (now : Stamp) (ref : Byte), s.ready →
    let code : Byte := 0x22
    let run := exec (.closeAudit now ref) s
    (s.vfu.session = none → run = .next (replied now ref code .wrongState .nothing s)) ∧
    (∀ session, s.vfu.session = some session →
      (s.stc.fault = true → run = .next (replied now ref code .storeFault .nothing s)) ∧
      (s.stc.fault = false → s.cck.isSet = false → run = .next (replied now ref code .clockUnset .nothing s)) ∧
      (s.stc.fault = false → s.cck.isSet = true → s.fillSlotPosted = true →
        run = .next (replied now ref code .ringBlocked .nothing s)) ∧
      (s.stc.fault = false → s.cck.isSet = true → s.fillSlotPosted = false →
        let summary := auditSummary session
        let record : Ticket :=
          { number := s.stc.store.ticket.next, time := s.cck.time, calCount := s.stc.store.calibration.count
            body := .audit summary }
        run = .next (holding now ref .closeAudit
          { s with stc := { s.stc with
            queue := s.stc.queue ++ [.certificate record summary.pass s.stc.store.calibration.newest] } })))) ∧
  (∀ session : Session,
    let loads := session.points.filter fun p => match p.body with
      | .load l => decide (l.declared ≠ 0)
      | .reference _ => false
    (auditSummary session).pass = true ↔
      (∃ p ∈ session.points, ∃ l, p.body = .load l ∧ l.declared = 0) ∧ 2 ≤ loads.length ∧ ∀ p ∈ session.points, p.pass = true) ∧
  (∀ session : Session,
    let a := auditSummary session
    let loads := session.points.filterMap fun p => match p.body with
      | .load l => some l
      | .reference _ => none
    (.noZeroPoint ∈ a.causes ↔ ∀ l ∈ loads, l.declared ≠ 0) ∧
    (.tooFewLoads ∈ a.causes ↔ (loads.countP fun l => decide (l.declared ≠ 0)) < 2) ∧
    (.pointFailed ∈ a.causes ↔ ∃ p ∈ session.points, p.pass = false) ∧
    a.pointCount = session.points.length ∧ (a.passCount = session.points.countP fun p => p.pass) ∧
    a.passCount + a.failCount = a.pointCount ∧ a.opening = session.opening ∧
    (a.worstError = none ↔ loads = []) ∧
    (∀ x, a.worstError = some x → ∃ before l after, loads = before ++ l :: after ∧ l.error = x ∧
      (∀ y ∈ before, y.error.natAbs < x.natAbs) ∧ ∀ y ∈ after, y.error.natAbs ≤ x.natAbs))

/-! ## The store -/

/-- R213, R141, R148, R149, R131, R133, R151, R163, R169, R187: the completion of the oldest update makes its whole change of the store and
no other; the removal of an open entry that is not in the table changes nothing (log 18), and with no update in flight the row is no
occurrence (log 2). The frames and replies of a completion (R124, R132, R143, R149, R151, R164, R188), in a free order where the spec gives
none (log 8): a release and a purge answer, and behind the reply (the model's order: log 10) let a waiting passage ask again where they end
its RING_BLOCKED or TABLE_FULL (R122, log 11),
a ticket sends NEW and posts its passage, which goes on to LEAVING where it has run through (R109), a certificate and a commit answer and
tell the blocks. -/
def Obligations.UpdateCompletes : Prop :=
  let asksAgain (w : HoldReason) (p : Passage) (x t : State) : Prop :=
    let q : Passage := { p with holds := dropHold w p.holds }
    let told (r : Passage) (y : State) : State :=
      offer (.passage { after := some p.state, before := some p.state, cause := .holdChange, record := r, stamp := none })
        { y with psu := { y.psu with passage := some r } }
    (requestOutcome x q = .accepted → t = issueTicket q x) ∧ (requestOutcome x q = .notMade → t = told q x) ∧
      ∀ v, requestOutcome x q = .refused v → t = told { q with holds := addHold v q.holds } (told q x)
  (∀ (s : State) (now : Stamp) (u : Update) (rest : List Update), s.powered = true → s.stc.queue = u :: rest →
    let st := s.stc.store
    let posted (t : Ticket) : TicketArea :=
      { next := st.ticket.next + 1#32, ring := st.ticket.ring.set st.ticket.fill (some t), fill := (st.ticket.fill + 1) % 32 }
    ∃ t, exec (.storeUpdateComplete now) s = .next t ∧
      t.stc.store = match u with
        | .ticket record change _ => { st with
            ticket := posted record
            transaction := match change with
              | .insert e => { st.transaction with
                  table := insertOpen e st.transaction.table, firstCount := st.transaction.firstCount + 1 }
              | .remove tag =>
                if findOpen tag st.transaction.table ≠ none then
                  { st.transaction with
                    table := removeOpen tag st.transaction.table, secondCount := st.transaction.secondCount + 1 }
                else st.transaction
              | .keep => st.transaction }
        | .certificate record pass mark => { st with
            ticket := posted record
            calibration := { st.calibration with mark := mark }
            reasons := if pass = true then [] else addReason .auditFailed st.reasons }
        | .release number => { st with
            ticket := match st.ticket.slotOf number with
              | some i => { st.ticket with ring := st.ticket.ring.set i none }
              | none => st.ticket }
        | .purge tag => { st with
            transaction :=
              if findOpen tag st.transaction.table ≠ none then
                { st.transaction with table := removeOpen tag st.transaction.table, purgeCount := st.transaction.purgeCount + 1 }
              else st.transaction }
        | .commit set entries => { st with
            calibration := { st.calibration with
              set := set
              count := st.calibration.count + 1
              trail := (st.calibration.trail ++ entries).drop (st.calibration.trail.length + entries.length - 48)
              newest := st.calibration.newest + entries.length }
            reasons := addReason .calibrationChanged st.reasons }
        | .reason => { st with reasons := addReason .zeroLimit st.reasons }) ∧
  (∀ (s : State) (now : Stamp), s.calm → s.stc.queue = [] → s.rnc.runState ≠ .halting →
    exec (.storeUpdateComplete now) s = .next (taken now s)) ∧
  (∀ (s : State) (now : Stamp) (ref : Byte) (number : BitVec 32) (i : Nat), s.held ref (.releaseTicket number) →
    s.rnc.runState ≠ .halting → s.stc.queue = [.release number] → s.stc.store.ticket.slotOf number = some i →
    let ring := s.stc.store.ticket.ring.set i none
    let answered : State :=
      replyTo ref 0x15 .done (.released i (ring.countP fun slot => slot.isSome))
        (freed { s with stc := { s.stc with
          store := { s.stc.store with ticket := { s.stc.store.ticket with ring := ring } }
          queue := [] } })
    (i ≠ s.stc.store.ticket.fill ∨ (∀ p, s.psu.passage = some p → .ringBlocked ∉ p.holds) →
      exec (.storeUpdateComplete now) s = .next (taken now answered)) ∧
    (∀ p, i = s.stc.store.ticket.fill → s.psu.passage = some p → .ringBlocked ∈ p.holds →
      ∃ t, exec (.storeUpdateComplete now) s = .next (taken now t) ∧ asksAgain .ringBlocked p answered t)) ∧
  (∀ (s : State) (now : Stamp) (ref : Byte) (tag : Tag) (e : OpenEntry), s.held ref (.purgeTransaction tag) →
    s.rnc.runState ≠ .halting → s.stc.queue = [.purge tag] → findOpen tag s.stc.store.transaction.table = some e →
    let area : TransactionArea := { s.stc.store.transaction with
      table := removeOpen tag s.stc.store.transaction.table, purgeCount := s.stc.store.transaction.purgeCount + 1 }
    let answered : State :=
      replyTo ref 0x18 .done (.transaction (some e) area.table.length ⟨area.firstCount, area.secondCount, area.purgeCount⟩)
        (freed { s with stc := { s.stc with store := { s.stc.store with transaction := area }, queue := [] } })
    (s.stc.store.transaction.table.length ≠ 64 ∨ (∀ p, s.psu.passage = some p → .tableFull ∉ p.holds) →
      exec (.storeUpdateComplete now) s = .next (taken now answered)) ∧
    (∀ p, s.stc.store.transaction.table.length = 64 → area.table.length = 63 → s.psu.passage = some p → .tableFull ∈ p.holds →
      ∃ t, exec (.storeUpdateComplete now) s = .next (taken now t) ∧ asksAgain .tableFull p answered t)) ∧
  (∀ (s : State) (now : Stamp) (record : Ticket) (e : OpenEntry) (number : BitVec 16) (p : Passage), s.calm →
    s.rnc.runState ≠ .halting → s.stc.queue = [.ticket record (.insert e) (some number)] → s.stc.store.ticket.next + 1#32 ≠ 0 →
    let st := s.stc.store
    let posted : State := { s with stc := { s.stc with
      store := { st with
        ticket :=
          { next := st.ticket.next + 1#32, ring := st.ticket.ring.set st.ticket.fill (some record), fill := (st.ticket.fill + 1) % 32 }
        transaction := { st.transaction with
          table := insertOpen e st.transaction.table, firstCount := st.transaction.firstCount + 1 } }
      queue := [] } }
    (s.psu.passage = none →
      exec (.storeUpdateComplete now) s = .next (taken now (offer (.ticket false st.ticket.fill record) posted))) ∧
    (s.psu.passage = some p → p.state = .issuing → p.number = number → p.runThrough = false →
      let q : Passage := { p with state := .done, ticket := some record.number }
      let after : State := { posted with psu := { s.psu with passage := some q }, freeCount := s.freeCount + 2 }
      let sent : Frame := .ticket false st.ticket.fill record
      let told : Frame :=
        .passage { after := some .done, before := some .issuing, cause := .posted, record := q, stamp := none }
      exec (.storeUpdateComplete now) s = .next (taken now (offer sent (offer told after))) ∨
      exec (.storeUpdateComplete now) s = .next (taken now (offer told (offer sent after)))) ∧
    (s.psu.passage = some p → p.state = .issuing → p.number = number → p.runThrough = true → s.ylu.exitLoop.accepted ≠ some false →
      let q : Passage := { p with state := .done, ticket := some record.number }
      let gone : Passage := { q with state := .leaving }
      let after : State :=
        { posted with psu := { s.psu with passage := some gone, captureTimer := none }, freeCount := s.freeCount + 2 }
      let sent : Frame := .ticket false st.ticket.fill record
      let told (x : State) : State :=
        offer (.passage { after := some .leaving, before := some .done, cause := .runThrough, record := gone, stamp := none })
          (offer (.passage { after := some .done, before := some .issuing, cause := .posted, record := q, stamp := none }) x)
      exec (.storeUpdateComplete now) s = .next (taken now (offer sent (told after))) ∨
      exec (.storeUpdateComplete now) s = .next (taken now (told (offer sent after))))) ∧
  (∀ (s : State) (now : Stamp) (ref : Byte) (set : CalSet) (entries : List TrailEntry), s.held ref .commitCal →
    s.rnc.runState ≠ .halting → s.stc.queue = [.commit set entries] → s.reasonSet ≠ [] →
    let area := s.stc.store.calibration
    let k := entries.length
    let stored : CalArea :=
      { set := set, count := area.count + 1, trail := (area.trail ++ entries).drop (area.trail.length + k - 48)
        newest := area.newest + k, mark := area.mark }
    exec (.storeUpdateComplete now) s =
      .next (replied now ref 0x1C .done (.committed (area.count + 1) k (area.newest + k + 1 - k) (area.newest + k) (area.newest + k - area.mark))
        (freed (setChanged s.setInUse true { s with
          clu := { staged := none, openingRecorded := false }
          freeCount := s.freeCount + 2
          stc := { s.stc with
            store := { s.stc.store with calibration := stored, reasons := addReason .calibrationChanged s.stc.store.reasons }
            queue := [] } })))) ∧
  (∀ (s : State) (now : Stamp) (ref : Byte) (record : Ticket) (a : AuditSummary) (pass : Bool) (mark : Nat) (g : Frame),
    s.held ref .closeAudit → s.rnc.runState ≠ .halting → s.stc.queue = [.certificate record pass mark] → record.body = .audit a →
    s.tli.sending = some g → s.tli.classA.length ≤ 16 →
    ∃ t, exec (.storeUpdateComplete now) s = .next t ∧ t.vfu.session = none ∧ t.tli.directives = [] ∧
      .ticket false s.stc.store.ticket.fill record ∈ t.tli.classA ∧
      .reply ⟨ref, 0x22, .done, .certificate record.number s.stc.store.ticket.fill a mark⟩ ∈ t.tli.classA ∧
      (pass = true → t.vfu.zeroLimitPending = false ∧
        t.wge.decks = s.wge.decks.map (Option.map fun d =>
          { d with initialZero := d.initialZero.map fun _ => d.zero, zeroLimit := false })))

/-- R214: a failed update leaves the store whole, sets the fault flag and ends every waiting update in turn; STORE_FAULT and a change of
the trade status stand before what the producers are told (log 31), and the event is raised also where the flag stands already (the
model's choice: log 50). A ticket's passage goes back to CAPTURED with the wait STORE_FAULT, or
to LEAVING where it has run through (R144, R124, R109); a release, a purge and a certificate are answered STORE_FAULT, the session staying
open (R149, R132, R189), and so is a commit, which keeps calibration mode with the switch accepted closed and ends it otherwise, its
frames before the reply (R165, log 10). With no update in flight the row is no occurrence (log 2). -/
def Obligations.UpdateFails : Prop :=
  (∀ (s : State) (now : Stamp) (u : Update) (rest : List Update), s.powered = true → s.stc.queue = u :: rest →
    ∃ t, exec (.storeUpdateFailed now) s = .next t ∧ t.stc.store = s.stc.store ∧ t.stc.fault = true ∧ t.stc.queue = []) ∧
  (∀ (s : State) (now : Stamp), s.calm → s.stc.queue = [] → s.rnc.runState ≠ .halting →
    exec (.storeUpdateFailed now) s = .next (taken now s)) ∧
  (∀ (s : State) (now : Stamp) (u : Update) (rest : List Update), s.calm → s.rnc.runState ≠ .halting → s.stc.queue = u :: rest →
    let run := exec (.storeUpdateFailed now) s
    let fault : State :=
      offer (.event now (.storeFault (.writeFailed u.producer))) { s with stc := { s.stc with fault := true, queue := [] } }
    let flagged : State :=
      if s.reasonSet = [] then
        offer (.event now (.tradeStatusChanged false [.storeFault] s.vfu.zeroLimitPending .storeFault)) fault
      else fault
    let told (after : Option PassageState) (before : PassageState) (cause : PassageCause) (p : Passage) (x : State) : State :=
      offer (.passage { after := after, before := some before, cause := cause, record := p, stamp := none }) x
    let back (p : Passage) : State :=
      let q : Passage := { p with state := .captured, holds := addHold .storeFault p.holds }
      told (some .captured) .issuing .issueFailed q { flagged with psu := { s.psu with passage := some q } }
    (∀ record change, u = .reason ∨ u = .ticket record change none → rest = [] → run = .next (taken now flagged)) ∧
    (∀ record change p, u = .ticket record change (some p.number) → s.psu.passage = some p → p.state = .issuing →
      (rest = [] → p.runThrough = false → run = .next (taken now (back p))) ∧
      (∀ ref number, rest = [.release number] → s.held ref (.releaseTicket number) → p.runThrough = false →
        run = .next (replied now ref 0x15 .storeFault .nothing (freed (back p)))) ∧
      (rest = [] → p.runThrough = true →
        let q : Passage := { p with state := .leaving }
        let away (x : State) : State := told (some .leaving) .issuing .runThrough q x
        (s.ylu.exitLoop.accepted ≠ some false →
          run = .next (taken now (away { flagged with psu := { s.psu with passage := some q, captureTimer := none } }))) ∧
        (s.ylu.exitLoop.accepted = some false → s.ylu.entryLoop.accepted ≠ some true →
          run = .next (taken now (told none .leaving .left q
            (away { flagged with psu := { s.psu with passage := none, captureTimer := none }, axm := .cleared })))))) ∧
    (∀ ref d, s.held ref d → rest = [] →
      (∃ number, d = .releaseTicket number ∧ u = .release number) ∨ (∃ tag, d = .purgeTransaction tag ∧ u = .purge tag) ∨
        (d = .closeAudit ∧ ∃ record pass mark, u = .certificate record pass mark) →
      run = .next (replied now ref d.code .storeFault .nothing (freed flagged))) ∧
    (∀ ref set entries, s.held ref .commitCal → rest = [] → u = .commit set entries →
      (s.ylu.calSwitch.accepted = some true →
        run = .next (replied now ref 0x1C .storeFault .nothing
          (freed { flagged with clu := { s.clu with openingRecorded := false } }))) ∧
      (∀ staged, s.ylu.calSwitch.accepted ≠ some true → s.clu.staged = some staged →
        run = .next (replied now ref 0x1C .storeFault .nothing
          (freed (offer (.event now (.calSwitchOpened (changedParams staged s.committed).length))
            (setChanged staged true { flagged with clu := { staged := none, openingRecorded := false } })))))))
end

