-- ==== Sys2Proof/Laws/State.lean ====
section
/-! SUPPORT. The fields of State after each update: what an update does not write, it leaves. -/

namespace Sys2Proof.Machine

variable (s : State)

/-! `offer` -/

@[simp] theorem offer_powered (f : Frame) : (offer f s).powered = s.powered := rfl
@[simp] theorem offer_clc (f : Frame) : (offer f s).clc = s.clc := rfl
@[simp] theorem offer_wge (f : Frame) : (offer f s).wge = s.wge := rfl
@[simp] theorem offer_ylu (f : Frame) : (offer f s).ylu = s.ylu := rfl
@[simp] theorem offer_axm (f : Frame) : (offer f s).axm = s.axm := rfl
@[simp] theorem offer_vtb (f : Frame) : (offer f s).vtb = s.vtb := rfl
@[simp] theorem offer_psu (f : Frame) : (offer f s).psu = s.psu := rfl
@[simp] theorem offer_clu (f : Frame) : (offer f s).clu = s.clu := rfl
@[simp] theorem offer_vfu (f : Frame) : (offer f s).vfu = s.vfu := rfl
@[simp] theorem offer_rnc (f : Frame) : (offer f s).rnc = s.rnc := rfl
@[simp] theorem offer_cck (f : Frame) : (offer f s).cck = s.cck := rfl
@[simp] theorem offer_stc (f : Frame) : (offer f s).stc = s.stc := rfl
@[simp] theorem offer_freeCount (f : Frame) : (offer f s).freeCount = s.freeCount := rfl
@[simp] theorem offer_pending (f : Frame) : (offer f s).pending = s.pending := rfl

/-! `raise` -/

@[simp] theorem raise_powered (e : Event) : (raise e s).powered = s.powered := rfl
@[simp] theorem raise_clc (e : Event) : (raise e s).clc = s.clc := rfl
@[simp] theorem raise_wge (e : Event) : (raise e s).wge = s.wge := rfl
@[simp] theorem raise_ylu (e : Event) : (raise e s).ylu = s.ylu := rfl
@[simp] theorem raise_axm (e : Event) : (raise e s).axm = s.axm := rfl
@[simp] theorem raise_vtb (e : Event) : (raise e s).vtb = s.vtb := rfl
@[simp] theorem raise_psu (e : Event) : (raise e s).psu = s.psu := rfl
@[simp] theorem raise_clu (e : Event) : (raise e s).clu = s.clu := rfl
@[simp] theorem raise_vfu (e : Event) : (raise e s).vfu = s.vfu := rfl
@[simp] theorem raise_rnc (e : Event) : (raise e s).rnc = s.rnc := rfl
@[simp] theorem raise_cck (e : Event) : (raise e s).cck = s.cck := rfl
@[simp] theorem raise_stc (e : Event) : (raise e s).stc = s.stc := rfl
@[simp] theorem raise_freeCount (e : Event) : (raise e s).freeCount = s.freeCount := rfl
@[simp] theorem raise_pending (e : Event) : (raise e s).pending = s.pending := rfl

/-! `replyTo` -/

@[simp] theorem replyTo_powered (ref code : Byte) (st : Status) (r : Result) : (replyTo ref code st r s).powered = s.powered := rfl
@[simp] theorem replyTo_clc (ref code : Byte) (st : Status) (r : Result) : (replyTo ref code st r s).clc = s.clc := rfl
@[simp] theorem replyTo_wge (ref code : Byte) (st : Status) (r : Result) : (replyTo ref code st r s).wge = s.wge := rfl
@[simp] theorem replyTo_ylu (ref code : Byte) (st : Status) (r : Result) : (replyTo ref code st r s).ylu = s.ylu := rfl
@[simp] theorem replyTo_axm (ref code : Byte) (st : Status) (r : Result) : (replyTo ref code st r s).axm = s.axm := rfl
@[simp] theorem replyTo_vtb (ref code : Byte) (st : Status) (r : Result) : (replyTo ref code st r s).vtb = s.vtb := rfl
@[simp] theorem replyTo_psu (ref code : Byte) (st : Status) (r : Result) : (replyTo ref code st r s).psu = s.psu := rfl
@[simp] theorem replyTo_clu (ref code : Byte) (st : Status) (r : Result) : (replyTo ref code st r s).clu = s.clu := rfl
@[simp] theorem replyTo_vfu (ref code : Byte) (st : Status) (r : Result) : (replyTo ref code st r s).vfu = s.vfu := rfl
@[simp] theorem replyTo_rnc (ref code : Byte) (st : Status) (r : Result) : (replyTo ref code st r s).rnc = s.rnc := rfl
@[simp] theorem replyTo_cck (ref code : Byte) (st : Status) (r : Result) : (replyTo ref code st r s).cck = s.cck := rfl
@[simp] theorem replyTo_stc (ref code : Byte) (st : Status) (r : Result) : (replyTo ref code st r s).stc = s.stc := rfl
@[simp] theorem replyTo_freeCount (ref code : Byte) (st : Status) (r : Result) : (replyTo ref code st r s).freeCount = s.freeCount := rfl
@[simp] theorem replyTo_pending (ref code : Byte) (st : Status) (r : Result) : (replyTo ref code st r s).pending = s.pending := rfl

/-! `report` -/

@[simp] theorem report_powered (b a : Option PassageState) (c : PassageCause) (st : Option Stamp) (p : Passage) : (report b a c st p s).powered = s.powered := rfl
@[simp] theorem report_clc (b a : Option PassageState) (c : PassageCause) (st : Option Stamp) (p : Passage) : (report b a c st p s).clc = s.clc := rfl
@[simp] theorem report_wge (b a : Option PassageState) (c : PassageCause) (st : Option Stamp) (p : Passage) : (report b a c st p s).wge = s.wge := rfl
@[simp] theorem report_ylu (b a : Option PassageState) (c : PassageCause) (st : Option Stamp) (p : Passage) : (report b a c st p s).ylu = s.ylu := rfl
@[simp] theorem report_axm (b a : Option PassageState) (c : PassageCause) (st : Option Stamp) (p : Passage) : (report b a c st p s).axm = s.axm := rfl
@[simp] theorem report_vtb (b a : Option PassageState) (c : PassageCause) (st : Option Stamp) (p : Passage) : (report b a c st p s).vtb = s.vtb := rfl
@[simp] theorem report_psu (b a : Option PassageState) (c : PassageCause) (st : Option Stamp) (p : Passage) : (report b a c st p s).psu = s.psu := rfl
@[simp] theorem report_clu (b a : Option PassageState) (c : PassageCause) (st : Option Stamp) (p : Passage) : (report b a c st p s).clu = s.clu := rfl
@[simp] theorem report_vfu (b a : Option PassageState) (c : PassageCause) (st : Option Stamp) (p : Passage) : (report b a c st p s).vfu = s.vfu := rfl
@[simp] theorem report_rnc (b a : Option PassageState) (c : PassageCause) (st : Option Stamp) (p : Passage) : (report b a c st p s).rnc = s.rnc := rfl
@[simp] theorem report_cck (b a : Option PassageState) (c : PassageCause) (st : Option Stamp) (p : Passage) : (report b a c st p s).cck = s.cck := rfl
@[simp] theorem report_stc (b a : Option PassageState) (c : PassageCause) (st : Option Stamp) (p : Passage) : (report b a c st p s).stc = s.stc := rfl
@[simp] theorem report_freeCount (b a : Option PassageState) (c : PassageCause) (st : Option Stamp) (p : Passage) : (report b a c st p s).freeCount = s.freeCount := rfl
@[simp] theorem report_pending (b a : Option PassageState) (c : PassageCause) (st : Option Stamp) (p : Passage) : (report b a c st p s).pending = s.pending := rfl

/-! `holdQueue` -/

@[simp] theorem holdQueue_powered : (holdQueue s).powered = s.powered := rfl
@[simp] theorem holdQueue_clc : (holdQueue s).clc = s.clc := rfl
@[simp] theorem holdQueue_wge : (holdQueue s).wge = s.wge := rfl
@[simp] theorem holdQueue_ylu : (holdQueue s).ylu = s.ylu := rfl
@[simp] theorem holdQueue_axm : (holdQueue s).axm = s.axm := rfl
@[simp] theorem holdQueue_vtb : (holdQueue s).vtb = s.vtb := rfl
@[simp] theorem holdQueue_psu : (holdQueue s).psu = s.psu := rfl
@[simp] theorem holdQueue_clu : (holdQueue s).clu = s.clu := rfl
@[simp] theorem holdQueue_vfu : (holdQueue s).vfu = s.vfu := rfl
@[simp] theorem holdQueue_rnc : (holdQueue s).rnc = s.rnc := rfl
@[simp] theorem holdQueue_cck : (holdQueue s).cck = s.cck := rfl
@[simp] theorem holdQueue_stc : (holdQueue s).stc = s.stc := rfl
@[simp] theorem holdQueue_freeCount : (holdQueue s).freeCount = s.freeCount := rfl
@[simp] theorem holdQueue_pending : (holdQueue s).pending = s.pending := rfl

/-! `setFramer` -/

@[simp] theorem setFramer_powered (f : Framer) : (setFramer f s).powered = s.powered := rfl
@[simp] theorem setFramer_clc (f : Framer) : (setFramer f s).clc = s.clc := rfl
@[simp] theorem setFramer_wge (f : Framer) : (setFramer f s).wge = s.wge := rfl
@[simp] theorem setFramer_ylu (f : Framer) : (setFramer f s).ylu = s.ylu := rfl
@[simp] theorem setFramer_axm (f : Framer) : (setFramer f s).axm = s.axm := rfl
@[simp] theorem setFramer_vtb (f : Framer) : (setFramer f s).vtb = s.vtb := rfl
@[simp] theorem setFramer_psu (f : Framer) : (setFramer f s).psu = s.psu := rfl
@[simp] theorem setFramer_clu (f : Framer) : (setFramer f s).clu = s.clu := rfl
@[simp] theorem setFramer_vfu (f : Framer) : (setFramer f s).vfu = s.vfu := rfl
@[simp] theorem setFramer_rnc (f : Framer) : (setFramer f s).rnc = s.rnc := rfl
@[simp] theorem setFramer_cck (f : Framer) : (setFramer f s).cck = s.cck := rfl
@[simp] theorem setFramer_stc (f : Framer) : (setFramer f s).stc = s.stc := rfl
@[simp] theorem setFramer_freeCount (f : Framer) : (setFramer f s).freeCount = s.freeCount := rfl
@[simp] theorem setFramer_pending (f : Framer) : (setFramer f s).pending = s.pending := rfl

/-! `discardFrame` -/

@[simp] theorem discardFrame_powered : (discardFrame s).powered = s.powered := rfl
@[simp] theorem discardFrame_clc : (discardFrame s).clc = s.clc := rfl
@[simp] theorem discardFrame_wge : (discardFrame s).wge = s.wge := rfl
@[simp] theorem discardFrame_ylu : (discardFrame s).ylu = s.ylu := rfl
@[simp] theorem discardFrame_axm : (discardFrame s).axm = s.axm := rfl
@[simp] theorem discardFrame_vtb : (discardFrame s).vtb = s.vtb := rfl
@[simp] theorem discardFrame_psu : (discardFrame s).psu = s.psu := rfl
@[simp] theorem discardFrame_clu : (discardFrame s).clu = s.clu := rfl
@[simp] theorem discardFrame_vfu : (discardFrame s).vfu = s.vfu := rfl
@[simp] theorem discardFrame_rnc : (discardFrame s).rnc = s.rnc := rfl
@[simp] theorem discardFrame_cck : (discardFrame s).cck = s.cck := rfl
@[simp] theorem discardFrame_stc : (discardFrame s).stc = s.stc := rfl
@[simp] theorem discardFrame_freeCount : (discardFrame s).freeCount = s.freeCount := rfl
@[simp] theorem discardFrame_pending : (discardFrame s).pending = s.pending := rfl

/-! `offerRecord` -/

@[simp] theorem offerRecord_powered (r : WeightRecord) : (offerRecord r s).powered = s.powered := rfl
@[simp] theorem offerRecord_clc (r : WeightRecord) : (offerRecord r s).clc = s.clc := rfl
@[simp] theorem offerRecord_wge (r : WeightRecord) : (offerRecord r s).wge = s.wge := rfl
@[simp] theorem offerRecord_ylu (r : WeightRecord) : (offerRecord r s).ylu = s.ylu := rfl
@[simp] theorem offerRecord_axm (r : WeightRecord) : (offerRecord r s).axm = s.axm := rfl
@[simp] theorem offerRecord_vtb (r : WeightRecord) : (offerRecord r s).vtb = s.vtb := rfl
@[simp] theorem offerRecord_psu (r : WeightRecord) : (offerRecord r s).psu = s.psu := rfl
@[simp] theorem offerRecord_clu (r : WeightRecord) : (offerRecord r s).clu = s.clu := rfl
@[simp] theorem offerRecord_vfu (r : WeightRecord) : (offerRecord r s).vfu = s.vfu := rfl
@[simp] theorem offerRecord_rnc (r : WeightRecord) : (offerRecord r s).rnc = s.rnc := rfl
@[simp] theorem offerRecord_cck (r : WeightRecord) : (offerRecord r s).cck = s.cck := rfl
@[simp] theorem offerRecord_stc (r : WeightRecord) : (offerRecord r s).stc = s.stc := rfl
@[simp] theorem offerRecord_freeCount (r : WeightRecord) : (offerRecord r s).freeCount = s.freeCount := rfl
@[simp] theorem offerRecord_pending (r : WeightRecord) : (offerRecord r s).pending = s.pending := rfl

/-! `offerMirror` -/

@[simp] theorem offerMirror_powered (sc : Scan) : (offerMirror sc s).powered = s.powered := rfl
@[simp] theorem offerMirror_clc (sc : Scan) : (offerMirror sc s).clc = s.clc := rfl
@[simp] theorem offerMirror_wge (sc : Scan) : (offerMirror sc s).wge = s.wge := rfl
@[simp] theorem offerMirror_ylu (sc : Scan) : (offerMirror sc s).ylu = s.ylu := rfl
@[simp] theorem offerMirror_axm (sc : Scan) : (offerMirror sc s).axm = s.axm := rfl
@[simp] theorem offerMirror_vtb (sc : Scan) : (offerMirror sc s).vtb = s.vtb := rfl
@[simp] theorem offerMirror_psu (sc : Scan) : (offerMirror sc s).psu = s.psu := rfl
@[simp] theorem offerMirror_clu (sc : Scan) : (offerMirror sc s).clu = s.clu := rfl
@[simp] theorem offerMirror_vfu (sc : Scan) : (offerMirror sc s).vfu = s.vfu := rfl
@[simp] theorem offerMirror_rnc (sc : Scan) : (offerMirror sc s).rnc = s.rnc := rfl
@[simp] theorem offerMirror_cck (sc : Scan) : (offerMirror sc s).cck = s.cck := rfl
@[simp] theorem offerMirror_stc (sc : Scan) : (offerMirror sc s).stc = s.stc := rfl
@[simp] theorem offerMirror_freeCount (sc : Scan) : (offerMirror sc s).freeCount = s.freeCount := rfl
@[simp] theorem offerMirror_pending (sc : Scan) : (offerMirror sc s).pending = s.pending := rfl

/-! `atTime` -/

@[simp] theorem atTime_powered (now : Stamp) : (atTime now s).powered = s.powered := rfl
@[simp] theorem atTime_clc (now : Stamp) : (atTime now s).clc = s.clc := rfl
@[simp] theorem atTime_wge (now : Stamp) : (atTime now s).wge = s.wge := rfl
@[simp] theorem atTime_axm (now : Stamp) : (atTime now s).axm = s.axm := rfl
@[simp] theorem atTime_vtb (now : Stamp) : (atTime now s).vtb = s.vtb := rfl
@[simp] theorem atTime_psu (now : Stamp) : (atTime now s).psu = s.psu := rfl
@[simp] theorem atTime_clu (now : Stamp) : (atTime now s).clu = s.clu := rfl
@[simp] theorem atTime_vfu (now : Stamp) : (atTime now s).vfu = s.vfu := rfl
@[simp] theorem atTime_tli (now : Stamp) : (atTime now s).tli = s.tli := rfl
@[simp] theorem atTime_rnc (now : Stamp) : (atTime now s).rnc = s.rnc := rfl
@[simp] theorem atTime_cck (now : Stamp) : (atTime now s).cck = s.cck := rfl
@[simp] theorem atTime_stc (now : Stamp) : (atTime now s).stc = s.stc := rfl
@[simp] theorem atTime_freeCount (now : Stamp) : (atTime now s).freeCount = s.freeCount := rfl
@[simp] theorem atTime_pending (now : Stamp) : (atTime now s).pending = s.pending := rfl

/-! `refreshLights` -/

@[simp] theorem refreshLights_powered : (refreshLights s).powered = s.powered := rfl
@[simp] theorem refreshLights_clc : (refreshLights s).clc = s.clc := rfl
@[simp] theorem refreshLights_wge : (refreshLights s).wge = s.wge := rfl
@[simp] theorem refreshLights_axm : (refreshLights s).axm = s.axm := rfl
@[simp] theorem refreshLights_vtb : (refreshLights s).vtb = s.vtb := rfl
@[simp] theorem refreshLights_psu : (refreshLights s).psu = s.psu := rfl
@[simp] theorem refreshLights_clu : (refreshLights s).clu = s.clu := rfl
@[simp] theorem refreshLights_vfu : (refreshLights s).vfu = s.vfu := rfl
@[simp] theorem refreshLights_tli : (refreshLights s).tli = s.tli := rfl
@[simp] theorem refreshLights_rnc : (refreshLights s).rnc = s.rnc := rfl
@[simp] theorem refreshLights_cck : (refreshLights s).cck = s.cck := rfl
@[simp] theorem refreshLights_stc : (refreshLights s).stc = s.stc := rfl
@[simp] theorem refreshLights_freeCount : (refreshLights s).freeCount = s.freeCount := rfl
@[simp] theorem refreshLights_pending : (refreshLights s).pending = s.pending := rfl

/-! `setPassage` -/

@[simp] theorem setPassage_powered (p : Passage) : (setPassage p s).powered = s.powered := rfl
@[simp] theorem setPassage_clc (p : Passage) : (setPassage p s).clc = s.clc := rfl
@[simp] theorem setPassage_wge (p : Passage) : (setPassage p s).wge = s.wge := rfl
@[simp] theorem setPassage_ylu (p : Passage) : (setPassage p s).ylu = s.ylu := rfl
@[simp] theorem setPassage_axm (p : Passage) : (setPassage p s).axm = s.axm := rfl
@[simp] theorem setPassage_vtb (p : Passage) : (setPassage p s).vtb = s.vtb := rfl
@[simp] theorem setPassage_clu (p : Passage) : (setPassage p s).clu = s.clu := rfl
@[simp] theorem setPassage_vfu (p : Passage) : (setPassage p s).vfu = s.vfu := rfl
@[simp] theorem setPassage_tli (p : Passage) : (setPassage p s).tli = s.tli := rfl
@[simp] theorem setPassage_rnc (p : Passage) : (setPassage p s).rnc = s.rnc := rfl
@[simp] theorem setPassage_cck (p : Passage) : (setPassage p s).cck = s.cck := rfl
@[simp] theorem setPassage_stc (p : Passage) : (setPassage p s).stc = s.stc := rfl
@[simp] theorem setPassage_freeCount (p : Passage) : (setPassage p s).freeCount = s.freeCount := rfl
@[simp] theorem setPassage_pending (p : Passage) : (setPassage p s).pending = s.pending := rfl

/-! `stopCaptureTimer` -/

@[simp] theorem stopCaptureTimer_powered : (stopCaptureTimer s).powered = s.powered := rfl
@[simp] theorem stopCaptureTimer_clc : (stopCaptureTimer s).clc = s.clc := rfl
@[simp] theorem stopCaptureTimer_wge : (stopCaptureTimer s).wge = s.wge := rfl
@[simp] theorem stopCaptureTimer_ylu : (stopCaptureTimer s).ylu = s.ylu := rfl
@[simp] theorem stopCaptureTimer_axm : (stopCaptureTimer s).axm = s.axm := rfl
@[simp] theorem stopCaptureTimer_vtb : (stopCaptureTimer s).vtb = s.vtb := rfl
@[simp] theorem stopCaptureTimer_clu : (stopCaptureTimer s).clu = s.clu := rfl
@[simp] theorem stopCaptureTimer_vfu : (stopCaptureTimer s).vfu = s.vfu := rfl
@[simp] theorem stopCaptureTimer_tli : (stopCaptureTimer s).tli = s.tli := rfl
@[simp] theorem stopCaptureTimer_rnc : (stopCaptureTimer s).rnc = s.rnc := rfl
@[simp] theorem stopCaptureTimer_cck : (stopCaptureTimer s).cck = s.cck := rfl
@[simp] theorem stopCaptureTimer_stc : (stopCaptureTimer s).stc = s.stc := rfl
@[simp] theorem stopCaptureTimer_freeCount : (stopCaptureTimer s).freeCount = s.freeCount := rfl
@[simp] theorem stopCaptureTimer_pending : (stopCaptureTimer s).pending = s.pending := rfl

/-! `keepResult` -/

@[simp] theorem keepResult_powered (r : Option AxleResult) : (keepResult r s).powered = s.powered := rfl
@[simp] theorem keepResult_clc (r : Option AxleResult) : (keepResult r s).clc = s.clc := rfl
@[simp] theorem keepResult_wge (r : Option AxleResult) : (keepResult r s).wge = s.wge := rfl
@[simp] theorem keepResult_ylu (r : Option AxleResult) : (keepResult r s).ylu = s.ylu := rfl
@[simp] theorem keepResult_vtb (r : Option AxleResult) : (keepResult r s).vtb = s.vtb := rfl
@[simp] theorem keepResult_psu (r : Option AxleResult) : (keepResult r s).psu = s.psu := rfl
@[simp] theorem keepResult_clu (r : Option AxleResult) : (keepResult r s).clu = s.clu := rfl
@[simp] theorem keepResult_vfu (r : Option AxleResult) : (keepResult r s).vfu = s.vfu := rfl
@[simp] theorem keepResult_tli (r : Option AxleResult) : (keepResult r s).tli = s.tli := rfl
@[simp] theorem keepResult_rnc (r : Option AxleResult) : (keepResult r s).rnc = s.rnc := rfl
@[simp] theorem keepResult_cck (r : Option AxleResult) : (keepResult r s).cck = s.cck := rfl
@[simp] theorem keepResult_stc (r : Option AxleResult) : (keepResult r s).stc = s.stc := rfl
@[simp] theorem keepResult_freeCount (r : Option AxleResult) : (keepResult r s).freeCount = s.freeCount := rfl
@[simp] theorem keepResult_pending (r : Option AxleResult) : (keepResult r s).pending = s.pending := rfl

/-! `startChecking` -/

@[simp] theorem startChecking_powered : (startChecking s).powered = s.powered := rfl
@[simp] theorem startChecking_clc : (startChecking s).clc = s.clc := rfl
@[simp] theorem startChecking_wge : (startChecking s).wge = s.wge := rfl
@[simp] theorem startChecking_ylu : (startChecking s).ylu = s.ylu := rfl
@[simp] theorem startChecking_vtb : (startChecking s).vtb = s.vtb := rfl
@[simp] theorem startChecking_psu : (startChecking s).psu = s.psu := rfl
@[simp] theorem startChecking_clu : (startChecking s).clu = s.clu := rfl
@[simp] theorem startChecking_vfu : (startChecking s).vfu = s.vfu := rfl
@[simp] theorem startChecking_tli : (startChecking s).tli = s.tli := rfl
@[simp] theorem startChecking_rnc : (startChecking s).rnc = s.rnc := rfl
@[simp] theorem startChecking_cck : (startChecking s).cck = s.cck := rfl
@[simp] theorem startChecking_stc : (startChecking s).stc = s.stc := rfl
@[simp] theorem startChecking_freeCount : (startChecking s).freeCount = s.freeCount := rfl
@[simp] theorem startChecking_pending : (startChecking s).pending = s.pending := rfl

/-! `endChecking` -/

@[simp] theorem endChecking_powered : (endChecking s).powered = s.powered := rfl
@[simp] theorem endChecking_clc : (endChecking s).clc = s.clc := rfl
@[simp] theorem endChecking_wge : (endChecking s).wge = s.wge := rfl
@[simp] theorem endChecking_ylu : (endChecking s).ylu = s.ylu := rfl
@[simp] theorem endChecking_vtb : (endChecking s).vtb = s.vtb := rfl
@[simp] theorem endChecking_psu : (endChecking s).psu = s.psu := rfl
@[simp] theorem endChecking_clu : (endChecking s).clu = s.clu := rfl
@[simp] theorem endChecking_vfu : (endChecking s).vfu = s.vfu := rfl
@[simp] theorem endChecking_tli : (endChecking s).tli = s.tli := rfl
@[simp] theorem endChecking_rnc : (endChecking s).rnc = s.rnc := rfl
@[simp] theorem endChecking_cck : (endChecking s).cck = s.cck := rfl
@[simp] theorem endChecking_stc : (endChecking s).stc = s.stc := rfl
@[simp] theorem endChecking_freeCount : (endChecking s).freeCount = s.freeCount := rfl
@[simp] theorem endChecking_pending : (endChecking s).pending = s.pending := rfl

/-! `clearAxles` -/

@[simp] theorem clearAxles_powered : (clearAxles s).powered = s.powered := rfl
@[simp] theorem clearAxles_clc : (clearAxles s).clc = s.clc := rfl
@[simp] theorem clearAxles_wge : (clearAxles s).wge = s.wge := rfl
@[simp] theorem clearAxles_ylu : (clearAxles s).ylu = s.ylu := rfl
@[simp] theorem clearAxles_vtb : (clearAxles s).vtb = s.vtb := rfl
@[simp] theorem clearAxles_psu : (clearAxles s).psu = s.psu := rfl
@[simp] theorem clearAxles_clu : (clearAxles s).clu = s.clu := rfl
@[simp] theorem clearAxles_vfu : (clearAxles s).vfu = s.vfu := rfl
@[simp] theorem clearAxles_tli : (clearAxles s).tli = s.tli := rfl
@[simp] theorem clearAxles_rnc : (clearAxles s).rnc = s.rnc := rfl
@[simp] theorem clearAxles_cck : (clearAxles s).cck = s.cck := rfl
@[simp] theorem clearAxles_stc : (clearAxles s).stc = s.stc := rfl
@[simp] theorem clearAxles_freeCount : (clearAxles s).freeCount = s.freeCount := rfl
@[simp] theorem clearAxles_pending : (clearAxles s).pending = s.pending := rfl

/-! `setClc` -/

@[simp] theorem setClc_powered (c : Clc) : (setClc c s).powered = s.powered := rfl
@[simp] theorem setClc_wge (c : Clc) : (setClc c s).wge = s.wge := rfl
@[simp] theorem setClc_ylu (c : Clc) : (setClc c s).ylu = s.ylu := rfl
@[simp] theorem setClc_axm (c : Clc) : (setClc c s).axm = s.axm := rfl
@[simp] theorem setClc_vtb (c : Clc) : (setClc c s).vtb = s.vtb := rfl
@[simp] theorem setClc_psu (c : Clc) : (setClc c s).psu = s.psu := rfl
@[simp] theorem setClc_clu (c : Clc) : (setClc c s).clu = s.clu := rfl
@[simp] theorem setClc_vfu (c : Clc) : (setClc c s).vfu = s.vfu := rfl
@[simp] theorem setClc_tli (c : Clc) : (setClc c s).tli = s.tli := rfl
@[simp] theorem setClc_rnc (c : Clc) : (setClc c s).rnc = s.rnc := rfl
@[simp] theorem setClc_cck (c : Clc) : (setClc c s).cck = s.cck := rfl
@[simp] theorem setClc_stc (c : Clc) : (setClc c s).stc = s.stc := rfl
@[simp] theorem setClc_freeCount (c : Clc) : (setClc c s).freeCount = s.freeCount := rfl
@[simp] theorem setClc_pending (c : Clc) : (setClc c s).pending = s.pending := rfl

/-! `setDeck` -/

@[simp] theorem setDeck_powered (i : Nat) (d : Deck) : (setDeck i d s).powered = s.powered := rfl
@[simp] theorem setDeck_clc (i : Nat) (d : Deck) : (setDeck i d s).clc = s.clc := rfl
@[simp] theorem setDeck_ylu (i : Nat) (d : Deck) : (setDeck i d s).ylu = s.ylu := rfl
@[simp] theorem setDeck_axm (i : Nat) (d : Deck) : (setDeck i d s).axm = s.axm := rfl
@[simp] theorem setDeck_vtb (i : Nat) (d : Deck) : (setDeck i d s).vtb = s.vtb := rfl
@[simp] theorem setDeck_psu (i : Nat) (d : Deck) : (setDeck i d s).psu = s.psu := rfl
@[simp] theorem setDeck_clu (i : Nat) (d : Deck) : (setDeck i d s).clu = s.clu := rfl
@[simp] theorem setDeck_vfu (i : Nat) (d : Deck) : (setDeck i d s).vfu = s.vfu := rfl
@[simp] theorem setDeck_tli (i : Nat) (d : Deck) : (setDeck i d s).tli = s.tli := rfl
@[simp] theorem setDeck_rnc (i : Nat) (d : Deck) : (setDeck i d s).rnc = s.rnc := rfl
@[simp] theorem setDeck_cck (i : Nat) (d : Deck) : (setDeck i d s).cck = s.cck := rfl
@[simp] theorem setDeck_stc (i : Nat) (d : Deck) : (setDeck i d s).stc = s.stc := rfl
@[simp] theorem setDeck_freeCount (i : Nat) (d : Deck) : (setDeck i d s).freeCount = s.freeCount := rfl
@[simp] theorem setDeck_pending (i : Nat) (d : Deck) : (setDeck i d s).pending = s.pending := rfl

/-! `setSession` -/

@[simp] theorem setSession_powered (x : Option Session) : (setSession x s).powered = s.powered := rfl
@[simp] theorem setSession_clc (x : Option Session) : (setSession x s).clc = s.clc := rfl
@[simp] theorem setSession_wge (x : Option Session) : (setSession x s).wge = s.wge := rfl
@[simp] theorem setSession_ylu (x : Option Session) : (setSession x s).ylu = s.ylu := rfl
@[simp] theorem setSession_axm (x : Option Session) : (setSession x s).axm = s.axm := rfl
@[simp] theorem setSession_vtb (x : Option Session) : (setSession x s).vtb = s.vtb := rfl
@[simp] theorem setSession_psu (x : Option Session) : (setSession x s).psu = s.psu := rfl
@[simp] theorem setSession_clu (x : Option Session) : (setSession x s).clu = s.clu := rfl
@[simp] theorem setSession_tli (x : Option Session) : (setSession x s).tli = s.tli := rfl
@[simp] theorem setSession_rnc (x : Option Session) : (setSession x s).rnc = s.rnc := rfl
@[simp] theorem setSession_cck (x : Option Session) : (setSession x s).cck = s.cck := rfl
@[simp] theorem setSession_stc (x : Option Session) : (setSession x s).stc = s.stc := rfl
@[simp] theorem setSession_freeCount (x : Option Session) : (setSession x s).freeCount = s.freeCount := rfl
@[simp] theorem setSession_pending (x : Option Session) : (setSession x s).pending = s.pending := rfl

/-! `setVehicles` -/

@[simp] theorem setVehicles_powered (vs : List Vehicle) : (setVehicles vs s).powered = s.powered := rfl
@[simp] theorem setVehicles_clc (vs : List Vehicle) : (setVehicles vs s).clc = s.clc := rfl
@[simp] theorem setVehicles_wge (vs : List Vehicle) : (setVehicles vs s).wge = s.wge := rfl
@[simp] theorem setVehicles_ylu (vs : List Vehicle) : (setVehicles vs s).ylu = s.ylu := rfl
@[simp] theorem setVehicles_axm (vs : List Vehicle) : (setVehicles vs s).axm = s.axm := rfl
@[simp] theorem setVehicles_psu (vs : List Vehicle) : (setVehicles vs s).psu = s.psu := rfl
@[simp] theorem setVehicles_clu (vs : List Vehicle) : (setVehicles vs s).clu = s.clu := rfl
@[simp] theorem setVehicles_vfu (vs : List Vehicle) : (setVehicles vs s).vfu = s.vfu := rfl
@[simp] theorem setVehicles_tli (vs : List Vehicle) : (setVehicles vs s).tli = s.tli := rfl
@[simp] theorem setVehicles_rnc (vs : List Vehicle) : (setVehicles vs s).rnc = s.rnc := rfl
@[simp] theorem setVehicles_cck (vs : List Vehicle) : (setVehicles vs s).cck = s.cck := rfl
@[simp] theorem setVehicles_stc (vs : List Vehicle) : (setVehicles vs s).stc = s.stc := rfl
@[simp] theorem setVehicles_freeCount (vs : List Vehicle) : (setVehicles vs s).freeCount = s.freeCount := rfl
@[simp] theorem setVehicles_pending (vs : List Vehicle) : (setVehicles vs s).pending = s.pending := rfl

/-! `taken` -/

@[simp] theorem taken_powered (now : Stamp) : (taken now s).powered = s.powered := rfl
@[simp] theorem taken_clc (now : Stamp) : (taken now s).clc = s.clc := rfl
@[simp] theorem taken_wge (now : Stamp) : (taken now s).wge = s.wge := rfl
@[simp] theorem taken_axm (now : Stamp) : (taken now s).axm = s.axm := rfl
@[simp] theorem taken_vtb (now : Stamp) : (taken now s).vtb = s.vtb := rfl
@[simp] theorem taken_psu (now : Stamp) : (taken now s).psu = s.psu := rfl
@[simp] theorem taken_clu (now : Stamp) : (taken now s).clu = s.clu := rfl
@[simp] theorem taken_vfu (now : Stamp) : (taken now s).vfu = s.vfu := rfl
@[simp] theorem taken_tli (now : Stamp) : (taken now s).tli = s.tli := rfl
@[simp] theorem taken_rnc (now : Stamp) : (taken now s).rnc = s.rnc := rfl
@[simp] theorem taken_cck (now : Stamp) : (taken now s).cck = s.cck := rfl
@[simp] theorem taken_stc (now : Stamp) : (taken now s).stc = s.stc := rfl
@[simp] theorem taken_freeCount (now : Stamp) : (taken now s).freeCount = s.freeCount := rfl
@[simp] theorem taken_pending (now : Stamp) : (taken now s).pending = s.pending := rfl

/-! `replied` -/

@[simp] theorem replied_powered (now : Stamp) (ref code : Byte) (st : Status) (r : Result) : (replied now ref code st r s).powered = s.powered := rfl
@[simp] theorem replied_clc (now : Stamp) (ref code : Byte) (st : Status) (r : Result) : (replied now ref code st r s).clc = s.clc := rfl
@[simp] theorem replied_wge (now : Stamp) (ref code : Byte) (st : Status) (r : Result) : (replied now ref code st r s).wge = s.wge := rfl
@[simp] theorem replied_axm (now : Stamp) (ref code : Byte) (st : Status) (r : Result) : (replied now ref code st r s).axm = s.axm := rfl
@[simp] theorem replied_vtb (now : Stamp) (ref code : Byte) (st : Status) (r : Result) : (replied now ref code st r s).vtb = s.vtb := rfl
@[simp] theorem replied_psu (now : Stamp) (ref code : Byte) (st : Status) (r : Result) : (replied now ref code st r s).psu = s.psu := rfl
@[simp] theorem replied_clu (now : Stamp) (ref code : Byte) (st : Status) (r : Result) : (replied now ref code st r s).clu = s.clu := rfl
@[simp] theorem replied_vfu (now : Stamp) (ref code : Byte) (st : Status) (r : Result) : (replied now ref code st r s).vfu = s.vfu := rfl
@[simp] theorem replied_rnc (now : Stamp) (ref code : Byte) (st : Status) (r : Result) : (replied now ref code st r s).rnc = s.rnc := rfl
@[simp] theorem replied_cck (now : Stamp) (ref code : Byte) (st : Status) (r : Result) : (replied now ref code st r s).cck = s.cck := rfl
@[simp] theorem replied_stc (now : Stamp) (ref code : Byte) (st : Status) (r : Result) : (replied now ref code st r s).stc = s.stc := rfl
@[simp] theorem replied_freeCount (now : Stamp) (ref code : Byte) (st : Status) (r : Result) : (replied now ref code st r s).freeCount = s.freeCount := rfl
@[simp] theorem replied_pending (now : Stamp) (ref code : Byte) (st : Status) (r : Result) : (replied now ref code st r s).pending = s.pending := rfl

/-! `holding` -/

@[simp] theorem holding_powered (now : Stamp) (ref : Byte) (d : Directive) : (holding now ref d s).powered = s.powered := rfl
@[simp] theorem holding_clc (now : Stamp) (ref : Byte) (d : Directive) : (holding now ref d s).clc = s.clc := rfl
@[simp] theorem holding_wge (now : Stamp) (ref : Byte) (d : Directive) : (holding now ref d s).wge = s.wge := rfl
@[simp] theorem holding_axm (now : Stamp) (ref : Byte) (d : Directive) : (holding now ref d s).axm = s.axm := rfl
@[simp] theorem holding_vtb (now : Stamp) (ref : Byte) (d : Directive) : (holding now ref d s).vtb = s.vtb := rfl
@[simp] theorem holding_psu (now : Stamp) (ref : Byte) (d : Directive) : (holding now ref d s).psu = s.psu := rfl
@[simp] theorem holding_clu (now : Stamp) (ref : Byte) (d : Directive) : (holding now ref d s).clu = s.clu := rfl
@[simp] theorem holding_vfu (now : Stamp) (ref : Byte) (d : Directive) : (holding now ref d s).vfu = s.vfu := rfl
@[simp] theorem holding_rnc (now : Stamp) (ref : Byte) (d : Directive) : (holding now ref d s).rnc = s.rnc := rfl
@[simp] theorem holding_cck (now : Stamp) (ref : Byte) (d : Directive) : (holding now ref d s).cck = s.cck := rfl
@[simp] theorem holding_stc (now : Stamp) (ref : Byte) (d : Directive) : (holding now ref d s).stc = s.stc := rfl
@[simp] theorem holding_freeCount (now : Stamp) (ref : Byte) (d : Directive) : (holding now ref d s).freeCount = s.freeCount := rfl
@[simp] theorem holding_pending (now : Stamp) (ref : Byte) (d : Directive) : (holding now ref d s).pending = s.pending := rfl
/-! What an update writes. -/

@[simp] theorem atTime_timebase (now : Stamp) : (atTime now s).ylu.timebase = now := rfl
@[simp] theorem refreshLights_timebase : (refreshLights s).ylu.timebase = s.ylu.timebase := rfl
@[simp] theorem refreshLights_filter (i : YardInput) : (refreshLights s).ylu.filter i = s.ylu.filter i := by cases i <;> rfl
@[simp] theorem setPassage_passage (p : Passage) : (setPassage p s).psu.passage = some p := rfl
@[simp] theorem setPassage_counter (p : Passage) : (setPassage p s).psu.counter = s.psu.counter := rfl
@[simp] theorem setClc_clc (c : Clc) : (setClc c s).clc = c := rfl
@[simp] theorem setSession_session (x : Option Session) : (setSession x s).vfu.session = x := rfl
@[simp] theorem setVehicles_vehicles (vs : List Vehicle) : (setVehicles vs s).vtb.vehicles = vs := rfl
@[simp] theorem setFramer_framer (f : Framer) : (setFramer f s).tli.framer = f := rfl
@[simp] theorem discardFrame_framer : (discardFrame s).tli.framer = .hunt := rfl
@[simp] theorem clearAxles_axm : (clearAxles s).axm = Axm.cleared := rfl
@[simp] theorem holdQueue_executing : (holdQueue s).tli.executing = true := rfl
@[simp] theorem keepResult_some (r : AxleResult) : (keepResult (some r) s).axm.result = some r := rfl

end Sys2Proof.Machine
end

