-- ==== Sys2Proof/Machine/Layout.lean ====
section
/-! DEFINITION. The bytes of what the part sends (R204 to R206, R19, R78, R126): the payload of every frame, and the
frame on TL_TXD and the poll on CL_TX. The blocks treat frames by their contents; nothing here changes State. -/

namespace Sys2Proof.Machine

/-! ## Fields (R204) -/

/-- A signed or unsigned field of n bytes, most significant first. -/
def intBytes (n : Nat) (x : Int) : List Byte := fieldBytes (BitVec.ofInt (8 * n) x) n

/-- A numbered field of one byte: the place in its list, from 1. -/
def nth (i : Nat) : List Byte := [BitVec.ofNat 8 (i + 1)]

/-- A field "yes or no", "set or clear" (log 15). -/
def yesNo (b : Bool) : List Byte := if b then [1] else [2]

/-- A field that may be absent: its presence byte, then the field or zeros. -/
def optional {α : Type} (size : Nat) (f : α → List Byte) : Option α → List Byte
  | some x => 1 :: f x
  | none => 0 :: List.replicate size 0

/-- A list: its count, then its items. -/
def listBytes {α : Type} (f : α → List Byte) (l : List α) : List Byte := BitVec.ofNat 8 l.length :: l.flatMap f

/-- A set of enumerated values: bit i − 1 for the value numbered i. -/
def setBytes {α : Type} [BEq α] (size : Nat) (all members : List α) : List Byte :=
  intBytes size ((all.mapIdx fun i x => if members.contains x then 2 ^ i else 0).foldl (· + ·) 0 : Nat)

/-- Bit i of a flag byte. -/
def bitOf (i : Nat) (b : Bool) : Nat := if b then 2 ^ i else 0

/-- A calendar time: six bytes, the year less 2000 first. -/
def timeBytes (t : CalTime) : List Byte := [t.year - 2000, t.month, t.day, t.hour, t.minute, t.second].map (BitVec.ofNat 8)

/-- A parameter identifier: its number in the order of R155, then the deck or cell number. -/
def ParamId.bytes : ParamId → List Byte
  | .global p => nth (globalParams.idxOf p) ++ [0]
  | .deck p i => nth (8 + deckParams.idxOf p) ++ intBytes 1 i
  | .cell p n => nth (11 + cellParams.idxOf p) ++ intBytes 1 n

/-! ## Numbers of enumerated values, in the order of their rules -/

/-- The error kinds, 1 to 8 (R7). -/
def CellError.number : CellError → Nat
  | .timeout => 1 | .parity => 2 | .framing => 3 | .length => 4
  | .check => 5 | .address => 6 | .stale => 7 | .excitation => 8

/-- The node states, 1 to 5. -/
def NodeState.number : NodeState → Nat
  | .unassigned => 1 | .searching => 2 | .live => 3 | .suspect => 4 | .lost => 5

/-- The deck states in the order of R29's table. -/
def DeckState.number : DeckState → Nat
  | .fault => 1 | .noZero => 2 | .held => 3 | .valid => 4

/-- The deck state's two bits (R205). -/
def DeckState.bits : DeckState → Nat
  | .noZero => 0 | .valid => 1 | .held => 2 | .fault => 3

/-- The range's two bits (R205). -/
def BridgeRange.bits : BridgeRange → Nat
  | .inRange => 0 | .underRange => 1 | .overRange => 2

/-- The foremost condition's priority, 0 for NONE (R205). -/
def Condition.priority : Condition → Nat
  | .storeFault => 1 | .lineBreak => 2 | .deckFault => 3 | .nodeLost => 4 | .notVerified => 5
  | .clockUnset => 6 | .ringBlocked => 7 | .scanOverrun => 8 | .none => 0

/-- The foremost condition as READ_STATUS numbers it: its place in R201's table, NONE being the ninth. R205's 0 for NONE
stands in the WEIGHT payload alone (DESIGN CHOICE, log 39). -/
def Condition.number : Condition → Nat
  | .none => 9
  | c => c.priority

/-- The verdicts OK, OVER, UNRATED, as a ticket and an open entry number them (R206, R129). -/
def Verdict.number : Verdict → Nat
  | .ok => 1 | .exceeded => 2 | .unrated => 3

/-- The verdicts as the axle summary of a PASSAGE frame and of READ_STATUS numbers them, in the order of R84's table; R206's
numbers stand in the TICKET payload alone (DESIGN CHOICE, log 51). -/
def Verdict.place : Verdict → Nat
  | .exceeded => 1 | .unrated => 2 | .ok => 3

/-- RECEIVAL, DISPATCH (R117, R206). -/
def TransactionKind.number : TransactionKind → Nat
  | .receival => 1 | .dispatch => 2

/-- FIRST, SECOND, ONE_PASS (R206). -/
def TicketType.number : TicketType → Nat
  | .first => 1 | .second => 2 | .onePass => 3

/-- WEIGHED, PRESET (R206). -/
def TareSource.number : TareSource → Nat
  | .weighed => 1 | .preset => 2

/-- The passage states, IDLE first as in the table of 06 "The states", then in the order of R103's table: one numbering for
PASSAGE and RUN_THROUGH frames and for the record of READ_STATUS (DESIGN CHOICE, log 41). -/
def stateNumber : Option PassageState → Nat
  | none => 1
  | some .arriving => 2 | some .onBridge => 3 | some .captured => 4 | some .issuing => 5
  | some .done => 6 | some .leaving => 7 | some .clearing => 8

/-- The causes of a PASSAGE report (R126). -/
def PassageCause.number : PassageCause → Nat
  | .entered => 1 | .on => 2 | .backedOut => 3 | .capture => 4 | .bound => 5 | .holdChange => 6 | .issueStarted => 7
  | .issueFailed => 8 | .posted => 9 | .runThrough => 10 | .exit => 11 | .vanished => 12 | .intruderLeft => 13
  | .abandoned => 14 | .left => 15 | .cleared => 16 | .halt => 17

/-- The five inputs. -/
def inputNumber : YardInput → Nat
  | .entryLoop => 1 | .exitLoop => 2 | .stripA => 3 | .stripB => 4 | .calSwitch => 5

/-- The inputs of LINE_CHANGE: ENTRY_LOOP, EXIT_LOOP, CAL_SWITCH (R58). -/
def lineNumber : YardInput → Nat
  | .entryLoop => 1 | .exitLoop => 2 | .calSwitch => 3 | .stripA => 0 | .stripB => 0

/-- The run states (11 "Run states"). -/
def RunState.number : RunState → Nat
  | .halted => 1 | .warmup => 2 | .run => 3 | .halting => 4

/-- The causes of STRIP_FAULT (R69). -/
def StripCause.number : StripCause → Nat
  | .aExpired => 1 | .bExpired => 2 | .repeatedA => 3 | .repeatedB => 4 | .simultaneous => 5

/-- The causes of TRADE_STATUS_CHANGED (R176). -/
def TradeCause.number : TradeCause → Nat
  | .commit => 1 | .zeroLimit => 2 | .storeFault => 3 | .auditPass => 4 | .auditFail => 5 | .powerOn => 6

/-- The producers (R212). -/
def Producer.number : Producer → Nat
  | .tku => 1 | .clu => 2 | .vfu => 3

/-- The capture conditions in the order of R115. -/
def allConditions : List CaptureCondition := [.running, .valid, .stable, .notTest, .inRange, .heavy]

/-- The status byte of a reply (R204). -/
def Status.byte : Status → Byte
  | .done => 0x00 | .badValue => 0x01 | .wrongState => 0x02 | .busy => 0x03 | .notFound => 0x04 | .unstable => 0x05
  | .outOfZeroRange => 0x06 | .noPassage => 0x07 | .alreadyBound => 0x08 | .tableFull => 0x09 | .noCalibration => 0x0A
  | .switchOpen => 0x0B | .clockUnset => 0x0C | .trailFull => 0x0D | .storeFault => 0x0E | .ringBlocked => 0x0F
  | .listFull => 0x10 | .queueFull => 0x11 | .unknownDirective => 0x12 | .malformed => 0x13

/-! ## WEIGHT, TICKET and SAMPLE payloads (R205, R206) -/

/-- The ten bytes of a deck (R205). -/
def DeckView.bytes : Option DeckView → List Byte
  | none => List.replicate 10 0
  | some v =>
    intBytes 1 (bitOf 7 true + bitOf 6 v.inBridge + 16 * v.state.bits + bitOf 3 v.stable + bitOf 2 v.overFlag +
      bitOf 1 v.zeroLimit + bitOf 0 v.value.isSome : Nat) ++
      intBytes 5 (v.value.getD 0) ++ intBytes 4 (v.indication.getD 0)

/-- The WEIGHT payload, 55 bytes (R205). -/
def WeightFrame.bytes (f : WeightFrame) : List Byte :=
  let r := f.record
  fieldBytes r.scan 4 ++ intBytes 4 r.calCount ++
    intBytes 1 (bitOf 7 r.valid + bitOf 6 r.stable + bitOf 5 r.test + bitOf 4 r.warmup + r.range.bits : Nat) ++
    intBytes 4 r.weight ++ intBytes 1 f.foremost.priority ++ [0] ++
    ((List.range 4).flatMap fun i => DeckView.bytes (r.decks.getD i none))

/-- The flags of a ticket (R206). -/
def TicketFlags.bytes (f : TicketFlags) : List Byte :=
  intBytes 2 (bitOf 0 f.negativeNet + bitOf 1 f.generationChanged + bitOf 2 f.axleOver + bitOf 3 f.grossOver +
    bitOf 4 f.axleCount + bitOf 5 f.probe + bitOf 6 f.runThrough : Nat)

/-- A field that is sent as zeros when absent, its presence shown elsewhere. -/
def orZeros {α : Type} (size : Nat) (f : α → List Byte) (x : Option α) : List Byte :=
  match x with
  | some x => f x
  | none => List.replicate size 0

/-- The body of a FIRST, SECOND or ONE_PASS ticket (R206). -/
def WeighTicket.bytes (w : WeighTicket) : List Byte :=
  let worst := w.axles.bind (·.worstExcess)
  intBytes 1 (bitOf 0 w.firstPass.isSome + bitOf 1 w.net.isSome + bitOf 2 w.axles.isSome + bitOf 3 worst.isSome : Nat) ++
    fieldBytes w.tag 4 ++ intBytes 1 w.kind.number ++ intBytes 4 w.weight ++
    orZeros 14 (fun f => intBytes 4 f.weight ++ fieldBytes f.number 4 ++ timeBytes f.time) w.firstPass ++
    orZeros 1 (fun t => intBytes 1 t.number) w.tareSource ++ orZeros 4 (intBytes 4) w.net ++
    orZeros 3 (fun a => intBytes 1 a.axleCount ++ intBytes 1 a.groupCount ++ intBytes 1 a.verdict.number) w.axles ++
    orZeros 4 (intBytes 4) worst ++ fieldBytes w.passage 2 ++ w.flags.bytes

/-- The fail causes in order (R186). -/
def allCauses : List FailCause := [.noZeroPoint, .tooFewLoads, .pointFailed]

/-- The body of an AUDIT ticket (R206). -/
def AuditSummary.bytes (a : AuditSummary) : List Byte :=
  intBytes 1 (if a.pass then 1 else 2) ++ setBytes 1 allCauses a.causes ++ intBytes 1 a.pointCount ++
    intBytes 1 a.passCount ++ intBytes 1 a.failCount ++
    intBytes 1 (bitOf 0 a.worstError.isSome + bitOf 1 a.opening.isSome : Nat) ++
    orZeros 4 (intBytes 4) a.worstError ++ orZeros 6 timeBytes a.opening

/-- The type byte of a ticket (R206). -/
def TicketBody.number : TicketBody → Nat
  | .weighing w => w.type.number
  | .audit _ => 4

/-- The TICKET payload (R206): 57 bytes, or 33 for an AUDIT ticket. -/
def ticketBytes (resent : Bool) (slot : Nat) (t : Ticket) : List Byte :=
  intBytes 1 (if resent then 1 else 0) ++ intBytes 1 slot ++ fieldBytes t.number 4 ++ intBytes 1 t.body.number ++
    timeBytes t.time ++ intBytes 4 t.calCount ++
    (match t.body with
    | .weighing w => w.bytes
    | .audit a => a.bytes)

/-- The outcome's four bits in a SAMPLE entry (R206). -/
def AttemptOutcome.bits : AttemptOutcome → Nat
  | .valid => 0
  | .error kind => kind.number
  | .notPolled => 9

/-- The six bytes of a SAMPLE entry (R206). -/
def MirrorEntry.bytes (e : MirrorEntry) : List Byte :=
  intBytes 1 e.node ++ intBytes 1 (64 * e.attempt.getD 0 + bitOf 5 e.status.isSome + e.outcome.bits : Nat) ++
    [e.status.getD 0] ++ fieldBytes (e.count.getD 0) 3

/-- The SAMPLE payload (R206). -/
def SampleFrame.bytes (f : SampleFrame) : List Byte :=
  fieldBytes f.scan 4 ++ [if f.line == .broken then 1 else 0] ++ listBytes (·.bytes) f.entries

/-! ## AXLE, PASSAGE and EVENT payloads (R204) -/

/-- An axle record in the order of R77: the flags are one set of five. A spacing that 4 bytes do not hold is sent by its low
32 bits (DESIGN CHOICE, log 45). -/
def AxleRecord.bytes (r : AxleRecord) : List Byte :=
  optional 1 (fun (i : Nat) => intBytes 1 i) r.index ++ optional 4 (fieldBytes · 4) r.crossing ++
    optional 4 (fun (v : Nat) => intBytes 4 v) r.speed ++ optional 4 (fun (v : Nat) => intBytes 4 v) r.spacing ++
    optional 4 (intBytes 4) r.load ++ intBytes 2 r.dwellCount ++
    intBytes 1 (bitOf 0 r.flags.fast + bitOf 1 r.flags.noPad + bitOf 2 r.flags.shortDwell + bitOf 3 r.flags.padOnly +
      bitOf 4 r.flags.resting : Nat) ++
    optional 1 (fun (g : Nat) => intBytes 1 g) r.group

/-- The markers of R78. -/
def AxleMarker.number : AxleMarker → Nat
  | .closed => 1 | .removed => 2 | .unrecorded => 3

/-- The identity's fields, each behind a presence byte of its own (R126's fifth and sixth lines, R103, log 32). -/
def identityBytes (i : Option Identity) : List Byte :=
  optional 4 (fun (i : Identity) => fieldBytes i.tag 4) i ++ optional 1 (fun (i : Identity) => intBytes 1 i.kind.number) i ++
    optional 1 (fun (i : Identity) => yesNo i.onePass) i ++ optional 1 (fun (i : Identity) => yesNo i.listed) i ++
    optional 1 (fun (c : Nat) => intBytes 1 c) (i.bind (·.cls)) ++
    optional 4 (fun (t : Nat) => intBytes 4 t) (i.bind (·.tare)) ++
    optional 1 (fun (i : Identity) => yesNo i.presetAllowed) i ++ optional 1 (fun (i : Identity) => yesNo i.tareOffDivision) i

/-- A capture (R103, R115). -/
def Capture.bytes (c : Capture) : List Byte :=
  intBytes 4 c.weight ++ fieldBytes c.scan 4 ++ fieldBytes c.stamp 4 ++ timeBytes c.time ++ intBytes 4 c.calCount

/-- The axle summary (R84, log 51). -/
def AxleSummary.bytes (a : AxleSummary) : List Byte :=
  intBytes 1 a.axleCount ++ intBytes 1 a.groupCount ++ intBytes 1 a.verdict.place ++ optional 4 (intBytes 4) a.worstExcess

/-- The fields of the record before its verdict, in the order of R126 and of R103's table. -/
def Passage.headBytes (p : Passage) : List Byte :=
  yesNo p.intruder ++ yesNo p.runThrough ++ identityBytes p.identity ++ optional 22 (·.bytes) p.capture

/-- The fields of the record after its verdict: the hold set and the ticket number (R103, R126). -/
def Passage.tailBytes (p : Passage) : List Byte := setBytes 2 allHolds p.holds ++ optional 4 (fieldBytes · 4) p.ticket

/-- The record's part of a PASSAGE frame, from the flags to the ticket number (R126, log 32): the axle summary,
AXLE_COUNT and GROSS_OVER each behind a presence byte of its own. -/
def Passage.bytes (p : Passage) : List Byte :=
  p.headBytes ++ optional 8 (fun (a : AxleResult) => a.summary.bytes) p.axles ++
    optional 1 (fun (a : AxleResult) => yesNo a.axleCountFlag) p.axles ++
    optional 1 (fun (a : AxleResult) => yesNo a.grossOver) p.axles ++ p.tailBytes

/-- A group's kind in the order of R82's table. -/
def GroupKind.number : GroupKind → Nat
  | .single => 1 | .tandem => 2 | .triple => 3 | .quad => 4 | .unrated => 5

/-- A group of the group list: its kind, axles, load and excess; the last two are absent from an UNRATED group
(R83, R86). -/
def AxleGroup.bytes (g : AxleGroup) : List Byte :=
  intBytes 1 g.kind.number ++ listBytes (fun (i : Nat) => intBytes 1 i) g.axles ++ optional 4 (intBytes 4) g.load ++
    optional 4 (intBytes 4) g.excess

/-- The leading groups whose bytes find room (log 32). -/
def groupsWithin : Nat → List AxleGroup → List AxleGroup
  | _, [] => []
  | room, g :: rest => if g.bytes.length ≤ room then g :: groupsWithin (room - g.bytes.length) rest else []

/-- The bytes that READ_STATUS's reply has for the group list: what a payload of 250 bytes leaves beside the
reply's other fields (R204, log 32). -/
def groupRoom : Nat := 84

/-- The axle result of the record: the group list, the summary, AXLE_COUNT and GROSS_OVER (R86, R103). -/
def AxleResult.bytes (a : AxleResult) : List Byte :=
  listBytes (·.bytes) (groupsWithin groupRoom a.groups) ++ a.summary.bytes ++ yesNo a.axleCountFlag ++ yesNo a.grossOver

/-- The passage record as it stands, in the order of R103's table (R126, R202). -/
def Passage.recordBytes (p : Passage) : List Byte :=
  fieldBytes p.number 2 ++ intBytes 1 (stateNumber (some p.state)) ++ p.headBytes ++ optional 11 (·.bytes) p.axles ++
    p.tailBytes

/-- The PASSAGE payload (R126). -/
def PassageReport.bytes (r : PassageReport) : List Byte :=
  fieldBytes r.record.number 2 ++ intBytes 1 (stateNumber r.after) ++ intBytes 1 (stateNumber r.before) ++
    intBytes 1 r.cause.number ++ r.record.bytes ++ optional 4 (fieldBytes · 4) r.stamp

/-- The code of an event, 01h to 10h in the order of R197's table. -/
def Event.code : Event → Byte
  | .nodeLost _ => 0x01 | .nodeRecovered _ => 0x02 | .lineBreak => 0x03 | .lineRestored => 0x04
  | .scanOverrun _ => 0x05 | .deckFault _ => 0x06 | .deckRecovered _ => 0x07 | .zeroLimit _ => 0x08
  | .stripFault .. => 0x09 | .captureTimeout .. => 0x0A | .runThrough .. => 0x0B | .lineChange .. => 0x0C
  | .calSwitchOpened _ => 0x0D | .tradeStatusChanged .. => 0x0E | .storeFault _ => 0x0F | .runStateChanged .. => 0x10

/-- The areas marked, numbered in the order of R212's table. -/
def Areas.numbers (a : Areas) : List Nat :=
  (if a.calibration then [1] else []) ++ (if a.status then [2] else []) ++ (if a.ticket then [3] else []) ++
    (if a.transaction then [4] else [])

/-- The causes of STORE_FAULT with what they carry (R214, R215): WRITE_FAILED 1, DAMAGED 2, NUMBERS_SPENT 3, and behind the
number what that cause carries, with no presence byte (DESIGN CHOICE, logs 32, 40). -/
def StoreCause.bytes : StoreCause → List Byte
  | .writeFailed producer => [1] ++ intBytes 1 producer.number
  | .damaged areas => [2] ++ listBytes (fun (n : Nat) => intBytes 1 n) (Areas.numbers areas)
  | .numbersSpent => [3]

/-- The trade reasons as a set, and behind it the pending mark in one byte, 1 pending and 2 not (R176; DESIGN CHOICE,
log 49). -/
def reasonBytes (reasons : List TradeReason) (pending : Bool) : List Byte := setBytes 1 allReasons reasons ++ yesNo pending

/-- The fields of an event (R197). The trade status is sent as VERIFIED 1, NOT_VERIFIED 2, the order of R176; R173 names
NOT_VERIFIED first (DESIGN CHOICE, log 32). -/
def Event.fields : Event → List Byte
  | .nodeLost n | .nodeRecovered n | .deckFault n | .deckRecovered n | .zeroLimit n => intBytes 1 n
  | .lineBreak | .lineRestored => []
  | .scanOverrun number => fieldBytes number 4
  | .stripFault passage cause opened => fieldBytes passage 2 ++ intBytes 1 cause.number ++ fieldBytes opened 4
  | .captureTimeout passage failed => fieldBytes passage 2 ++ setBytes 1 allConditions failed
  | .runThrough passage state loop => fieldBytes passage 2 ++ intBytes 1 (stateNumber (some state)) ++ fieldBytes loop 4
  | .lineChange input level stamp => intBytes 1 (lineNumber input) ++ yesNo level ++ fieldBytes stamp 4
  | .calSwitchOpened discarded => intBytes 1 discarded
  | .tradeStatusChanged verified reasons pending cause =>
    yesNo verified ++ reasonBytes reasons pending ++ intBytes 1 cause.number
  | .storeFault cause => cause.bytes
  | .runStateChanged before after => intBytes 1 before.number ++ intBytes 1 after.number

/-! ## Results of replies (R204, log 22) -/

/-- The site-settings block (11 "Site settings"). -/
def Site.bytes (x : Site) : List Byte :=
  intBytes 1 x.scanPeriod ++ intBytes 2 x.replyWindow ++ intBytes 1 x.lostLimit ++ intBytes 1 x.holdLimit ++
    intBytes 2 x.loopFilter ++ intBytes 1 x.stripFilter ++ intBytes 2 x.stripSpacing ++ intBytes 2 x.pairingWindow ++
    intBytes 2 x.speedLimit ++ intBytes 2 x.padOn ++ intBytes 2 x.padOff ++ intBytes 1 x.trim ++ intBytes 1 x.minDwell ++
    intBytes 2 x.groupGap ++ intBytes 1 x.captureTimeout ++ yesNo x.admitUnlisted ++ yesNo (!x.overloadHold)

/-- A node's record (R18). -/
def NodeRecord.bytes (r : NodeRecord) : List Byte :=
  intBytes 1 r.state.number ++ intBytes 1 r.missed ++ optional 1 (fun (k : CellError) => intBytes 1 k.number) r.lastError ++
    intBytes 2 r.errorCount ++ optional 1 (fun (n : Nat) => intBytes 1 n) r.lastSequence ++
    intBytes 1 (if r.mode == .normal then 1 else 2) ++ yesNo r.delivered

/-- A deck in the record as READ_WEIGHT returns it (R46). -/
def DeckView.fields (v : DeckView) : List Byte :=
  yesNo v.inBridge ++ intBytes 1 v.state.number ++ optional 4 (intBytes 4) v.value ++
    optional 4 (intBytes 4) v.indication ++ yesNo v.stable ++ yesNo v.overFlag ++ yesNo v.zeroLimit

/-- The range as R43 lists it: OVER, UNDER, IN_RANGE. -/
def BridgeRange.number : BridgeRange → Nat
  | .overRange => 1 | .underRange => 2 | .inRange => 3

/-- A deck 0 to 3 of the record as READ_WEIGHT returns it (R46): configured 1 or not 2, and its seven fields, which are
zeros for a deck that is not configured, as R205 sends it (DESIGN CHOICE, log 39). -/
def DeckView.entry (v : Option DeckView) : List Byte :=
  yesNo v.isSome ++ orZeros 15 (·.fields) v

/-- The bridge weight record as READ_WEIGHT returns it (R46). -/
def WeightRecord.bytes (r : WeightRecord) : List Byte :=
  fieldBytes r.scan 4 ++ intBytes 4 r.calCount ++ ((List.range 4).flatMap fun i => DeckView.entry (r.decks.getD i none)) ++
    intBytes 4 r.weight ++ intBytes 1 r.range.number ++ yesNo r.valid ++ yesNo r.stable ++ yesNo r.test

/-- A vehicle entry's five fields (R89). -/
def Vehicle.bytes (v : Vehicle) : List Byte :=
  fieldBytes v.tag 4 ++ intBytes 1 v.cls ++ optional 4 (fun (t : Nat) => intBytes 4 t) v.tare ++ yesNo v.presetAllowed ++
    yesNo v.blocked

/-- A class entry's seven fields (R97). -/
def ClassEntry.bytes (c : ClassEntry) : List Byte :=
  intBytes 1 c.minAxles ++ intBytes 1 c.maxAxles ++ intBytes 4 c.single ++ intBytes 4 c.tandem ++ intBytes 4 c.triple ++
    intBytes 4 c.quad ++ intBytes 4 c.gross

/-- A lookup's result (R95). -/
def Lookup.bytes (l : Lookup) : List Byte :=
  yesNo l.listed ++ optional 1 (fun (c : Nat) => intBytes 1 c) l.cls ++ optional 4 (fun (t : Nat) => intBytes 4 t) l.tare ++
    yesNo l.tareOffDivision ++ yesNo l.presetAllowed ++ yesNo l.blocked ++ intBytes 1 l.index.toNat ++ yesNo l.probe

/-- An open entry's seven fields (R129). -/
def OpenEntry.bytes (e : OpenEntry) : List Byte :=
  fieldBytes e.tag 4 ++ intBytes 1 e.kind.number ++ fieldBytes e.firstNumber 4 ++ intBytes 4 e.firstWeight ++
    timeBytes e.firstTime ++ intBytes 4 e.calCount ++ optional 1 (fun (v : Verdict) => intBytes 1 v.number) e.verdict

/-- The three counters (R133). -/
def Counters.bytes (c : Counters) : List Byte := intBytes 4 c.first ++ intBytes 4 c.second ++ intBytes 4 c.purge

/-- A trail entry's six fields (R163). -/
def TrailEntry.bytes (e : TrailEntry) : List Byte :=
  intBytes 4 e.sequence ++ intBytes 4 e.calCount ++ ParamId.bytes e.param ++ intBytes 4 e.oldValue ++ intBytes 4 e.newValue ++
    timeBytes e.time

/-- A point's target or cell (R178, R204). -/
def PointBody.target : PointBody → List Byte
  | .load p =>
    (match p.target with
    | .deck i => intBytes 1 i
    | .bridge => [0xFF])
  | .reference p => intBytes 1 p.cell

/-- A point in the order of R178's table. -/
def Point.bytes (p : Point) : List Byte :=
  let load : Option LoadPoint := match p.body with
    | .load l => some l
    | .reference _ => none
  let ref : Option ReferencePoint := match p.body with
    | .load _ => none
    | .reference r => some r
  intBytes 1 p.index ++ intBytes 1 (if load.isSome then 1 else 2) ++ p.body.target ++
    optional 4 (fun (l : LoadPoint) => intBytes 4 l.declared) load ++
    optional 4 (fun (l : LoadPoint) => intBytes 4 l.reading) load ++
    optional 4 (fun (l : LoadPoint) => intBytes 4 l.error) load ++
    optional 2 (fun (l : LoadPoint) => intBytes 2 l.mpe) load ++
    optional 1 (fun (r : ReferencePoint) => intBytes 1 r.samples) ref ++
    optional 4 (intBytes 4) (ref.bind (·.mean)) ++
    optional 4 (fun (r : ReferencePoint) => intBytes 4 r.refCount) ref ++
    optional 2 (fun (r : ReferencePoint) => intBytes 2 r.tolerance) ref ++
    optional 4 (intBytes 4) (ref.bind (·.difference)) ++
    intBytes 1 (if p.pass then 1 else 2) ++
    optional 1 (fun (_ : ReferencePoint) => [1]) (ref.filter (·.noReference))

/-- The flaw of a COMMIT_CAL: the condition's number, then the node or deck of the two that name one, with no presence byte
(R162; DESIGN CHOICE, log 40). -/
def CommitFlaw.bytes : CommitFlaw → List Byte
  | .nodeInTwoDecks node => [1] ++ intBytes 1 node
  | .deckSize deck => [2] ++ intBytes 1 deck
  | .capacityRatio => [3]
  | .padEmpty => [4]
  | .countSpent => [5]
  | .sequenceSpent => [6]

/-- An input as READ_STATUS shows it (R59): its accepted level 1 or 2 as in LINE_CHANGE, and 3 for UNSETTLED (DESIGN CHOICE,
log 22). -/
def InputReport.bytes (i : InputReport) : List Byte :=
  intBytes 1 (match i.accepted with
    | some true => 1
    | some false => 2
    | none => 3) ++ yesNo i.candidateOpen ++
    optional 5 (fun (m : LevelMark) => yesNo m.level ++ fieldBytes m.stamp 4) i.last ++ intBytes 2 i.chatter

/-- The rate as the number of its row in R192's table, 1 to 4 (DESIGN CHOICE, log 39). -/
def rateNumber (rate1 rate0 : Bool) : Nat := 2 * bitOf 0 rate1 + bitOf 0 rate0 + 1

/-- The store case of R152 as READ_STATUS shows it: 1 or 2 in the rule's order behind a presence byte, absent while neither
case applies (DESIGN CHOICE, log 39). -/
def StoreCase.bytes (c : StoreCase) : List Byte :=
  optional 1 (fun (n : Nat) => intBytes 1 n) (match c with
    | .clear => none
    | .writeFault => some 1
    | .unusable => some 2)

/-- The result of READ_STATUS in the order of R202; the trade status as in TRADE_STATUS_CHANGED (log 32), the line state
by R204's numbers, NORMAL 1 and BREAK 2 (log 39). -/
def StatusReport.bytes (r : StatusReport) : List Byte :=
  intBytes 1 (rateNumber r.rate1 r.rate0) ++ intBytes 2 r.badFrames ++ yesNo r.overflow ++ intBytes 1 r.queued ++
    intBytes 1 r.interval ++ intBytes 1 (if r.mirror then 2 else 1) ++ intBytes 1 r.foremost.number ++
    intBytes 1 r.runState.number ++ yesNo r.clockSet ++ yesNo r.calibrationMode ++
    intBytes 1 (if r.line == .normal then 1 else 2) ++ yesNo r.scanOverrun ++ r.inputs.flatMap (·.bytes) ++
    yesNo r.entryGreen ++ yesNo r.exitGreen ++ yesNo r.exitBarrier ++ fieldBytes r.timebase 4 ++ yesNo r.verified ++
    reasonBytes r.reasons r.zeroLimitPending ++ yesNo r.auditOpen ++ intBytes 1 r.auditPoints ++
    optional 69 (·.recordBytes) r.passage ++
    fieldBytes r.passageCounter 2 ++ intBytes 1 r.fill ++ intBytes 1 (if r.slotFree then 1 else 2) ++ r.counters.bytes ++
    r.storeCase.bytes

/-- The audit summary as a reply's field, in the order of R186's table: the worst error and the opening time each
behind a presence byte (R188, R204). -/
def AuditSummary.fields (a : AuditSummary) : List Byte :=
  intBytes 1 (if a.pass then 1 else 2) ++ setBytes 1 allCauses a.causes ++ intBytes 1 a.pointCount ++
    intBytes 1 a.passCount ++ intBytes 1 a.failCount ++ optional 4 (intBytes 4) a.worstError ++
    optional 6 timeBytes a.opening

/-- The size of a count in the reply of a directive: the vehicle entries of PUT_VEHICLE and CLEAR_VEHICLES reach 256 and take
two bytes (R90, R93), every other count one, DROP_VEHICLE's entries left among them (R92, R204). -/
def countSize (code : Byte) : Nat := if code == 0x0B || code == 0x0D then 2 else 1

/-- The result of a reply in bytes. READ_VEHICLE's tare check is absent when not made and without a tare (log 35).
ZERO_DECK's corrections are a list of deck numbers, each with its correction in 4 bytes, and a field that belongs to
another status or flaw is left out whole (DESIGN CHOICE, log 40). -/
def Result.bytes (code : Byte) : Result → List Byte
  | .nothing => []
  | .count n => intBytes (countSize code) n
  | .siteOffset offset => intBytes 1 offset
  | .site settings => settings.bytes
  | .lineTest mismatches => intBytes 1 (if mismatches == 0 then 1 else 2) ++ intBytes 1 mismatches
  | .node record => record.bytes
  | .correction grams => intBytes 4 grams
  | .corrections decks => listBytes (fun (d : Nat × Int) => intBytes 1 d.1 ++ intBytes 4 d.2) decks
  | .deck i => intBytes 1 i
  | .weight record => optional 80 (·.bytes) record
  | .vehiclePut replaced entries => intBytes 1 (if replaced then 2 else 1) ++ intBytes 2 entries
  | .vehicle entry tareFits index bit entries =>
    (match entry with
    | some v => v.bytes ++ optional 1 yesNo tareFits
    | none => []) ++ intBytes 1 index.toNat ++ yesNo bit ++ intBytes 2 entries
  | .classWas filled => intBytes 1 (if filled then 2 else 1)
  | .classEntry entry => optional 22 (·.bytes) entry
  | .bound l set n => l.bytes ++ setBytes 2 allHolds set ++ fieldBytes n 2
  | .holds set => setBytes 2 allHolds set
  | .slot index => intBytes 1 index
  | .released index posted => intBytes 1 index ++ intBytes 1 posted
  | .transaction entry entries counters =>
    (match entry with
    | some e => e.bytes
    | none => []) ++ intBytes 1 entries ++ counters.bytes
  | .entered calCount unaudited room => intBytes 4 calCount ++ intBytes 1 unaudited ++ intBytes 1 room
  | .paramSet before after changed => intBytes 4 before ++ intBytes 4 after ++ intBytes 1 changed
  | .paramRead value differs changed calCount =>
    intBytes 4 value ++ optional 1 yesNo differs ++ optional 1 (fun (k : Nat) => intBytes 1 k) changed ++ intBytes 4 calCount
  | .commitFlaw flaw => flaw.bytes
  | .trailFull changed unaudited => intBytes 1 changed ++ intBytes 1 unaudited
  | .committed calCount changed firstNew lastNew unaudited =>
    intBytes 4 calCount ++ intBytes 1 changed ++ intBytes 4 firstNew ++ intBytes 4 lastNew ++ intBytes 1 unaudited
  | .trail entries oldest newest mark more =>
    listBytes (·.bytes) entries ++ optional 4 (fun (n : Nat) => intBytes 4 n) oldest ++ intBytes 4 newest ++ intBytes 4 mark ++
      yesNo more
  | .auditOpened opening calCount reasons unaudited =>
    optional 6 timeBytes opening ++ intBytes 4 calCount ++ setBytes 1 allReasons reasons ++ intBytes 1 unaudited
  | .point p => p.bytes
  | .certificate number index summary mark => fieldBytes number 4 ++ intBytes 1 index ++ summary.fields ++ intBytes 4 mark
  | .clockWas time => optional 6 timeBytes time
  | .status report => report.bytes

/-! ## Frames on the lines -/

/-- The TYPE of a frame (R204). -/
def Frame.type : Frame → Byte
  | .reply _ => 0x81 | .weight _ => 0x82 | .sample _ => 0x83 | .axle .. => 0x84 | .passage _ => 0x85
  | .ticket .. => 0x86 | .event .. => 0x87

/-- The payload of a frame (R204 to R206). -/
def Frame.payload : Frame → List Byte
  | .reply r => [r.ref, r.code, r.status.byte] ++ r.result.bytes r.code
  | .weight f => f.bytes
  | .sample f => f.bytes
  | .axle n marker record => fieldBytes n 2 ++ intBytes 1 marker.number ++ record.bytes
  | .passage r => r.bytes
  | .ticket resent slot t => ticketBytes resent slot t
  | .event stamp e => [e.code] ++ fieldBytes stamp 4 ++ e.fields

/-- A frame as it is sent on TL_TXD (R193, R204). -/
def Frame.onLine (f : Frame) : List Byte := envelope f.type f.payload

/-- What TL_TXD carries: the frame being sent, nothing when the transmitter is idle (R200). -/
def State.linkOutput (s : State) : List Byte :=
  match s.tli.sending with
  | some f => f.onLine
  | none => []

/-- The poll that CL_TX carried before the open reply window (R1, R2). -/
def State.pollOutput (s : State) : List Byte :=
  match s.clc.attempt with
  | some a => pollFrame a.node a.command
  | none => []

/-! ## Characters on the lines (R1, R192)

A bit is true where the line marks and false where it is spacing: a start bit is spacing and a stop bit marks
(DEDUCED from R12 for the cell line, PRESUMED for the terminal link, log 25). -/

/-- The 8 data bits, least significant bit first (R1, R192). -/
def dataBits (b : Byte) : List Bool := (List.range 8).map b.getLsbD

/-- The byte of 8 data bits, the least significant first. -/
def byteOfBits (bits : List Bool) : Byte := bits.foldr (fun bit b => (b <<< 1) ||| (BitVec.ofBool bit).setWidth 8) 0

/-- The even parity bit: the number of ones among the data bits and it is even (R1). -/
def evenParity (b : Byte) : Bool := (dataBits b).foldl xor false

/-- A character of the terminal link: start bit, data bits, stop bit (R192). -/
def linkCharBits (b : Byte) : List Bool := [false] ++ dataBits b ++ [true]

/-- A character of the cell line: start bit, data bits, even parity bit, stop bit (R1). -/
def cellCharBits (b : Byte) : List Bool := [false] ++ dataBits b ++ [evenParity b, true]

/-- The character that ten bit times on TL_RXD make (R192). -/
def linkCharOf (bits : List Bool) : LinkChar where
  data := byteOfBits ((bits.drop 1).take 8)
  stopOk := bits.getD 9 false

/-- The character that eleven bit times on CL_RX make (R1). -/
def cellCharOf (bits : List Bool) : CellChar where
  data := byteOfBits ((bits.drop 1).take 8)
  parityOk := bits.getD 9 false == evenParity (byteOfBits ((bits.drop 1).take 8))
  stopOk := bits.getD 10 false

/-- The bits on TL_TXD of the frame being sent (R192, R193). -/
def State.linkBits (s : State) : List Bool := s.linkOutput.flatMap linkCharBits

/-- The bits on CL_TX of the poll, sent back to back (R1). -/
def State.pollBits (s : State) : List Bool := s.pollOutput.flatMap cellCharBits

/-- The rate of the terminal link in bit/s (R192). -/
def linkRate (rate1 rate0 : Bool) : Nat :=
  match rate1, rate0 with
  | false, false => 57600
  | false, true => 115200
  | true, false => 230400
  | true, true => 460800

/-- The longest gap inside a frame, five character times of ten bits, in ns and rounded down (R192, R193). -/
def gapLimit (rate1 rate0 : Bool) : Nat := 5 * 10 * 1000000000 / linkRate rate1 rate0

end Sys2Proof.Machine
end

