-- ==== Sys2Proof/Laws/Ops.lean ====
section
/-! SUPPORT. One lemma for each shared operation, saying once what it can do. -/

namespace Sys2Proof.Machine

/-! ## The transmit arbiter -/

/-- A busy transmitter makes no choice. -/
theorem choose_sending {t : Tli} {f : Frame} (h : t.sending = some f) : t.choose = t := by
  simp [Tli.choose, h]

/-- A class A frame offered while the transmitter sends joins the newest end of a queue with room. -/
theorem offer_joins {t : Tli} {g : Frame} (f : Frame) (hs : t.sending = some g) (hr : t.classA.length < 24) :
    t.offer f = { t with classA := t.classA ++ [f] } := by
  simp [Tli.offer, Config.classACapacity, hr, Tli.choose, hs]

/-- A class A frame offered to a full queue is dropped and sets the overflow flag. -/
theorem offer_drops {t : Tli} {g : Frame} (f : Frame) (hs : t.sending = some g) (hr : ¬ t.classA.length < 24) :
    t.offer f = { t with overflow := true } := by
  simp [Tli.offer, Config.classACapacity, hr, Tli.choose, hs]

/-- A class A frame offered to an idle transmitter with nothing queued is sent at once. -/
theorem offer_sends {t : Tli} (f : Frame) (hs : t.sending = none) (hq : t.classA = []) :
    t.offer f = { t with sending := some f } := by
  simp [Tli.offer, Config.classACapacity, hq, Tli.choose, hs]

/-- Offering never touches anything of the TLI but the queue, the transmitter, the slots and the overflow flag. -/
theorem offer_keeps (t : Tli) (f : Frame) :
    (t.offer f).directives = t.directives ∧ (t.offer f).executing = t.executing ∧ (t.offer f).framer = t.framer ∧
      (t.offer f).badFrames = t.badFrames ∧ (t.offer f).interval = t.interval ∧ (t.offer f).mirror = t.mirror ∧
      (t.offer f).scanOverrun = t.scanOverrun ∧ (t.offer f).rate1 = t.rate1 ∧ (t.offer f).rate0 = t.rate0 := by
  simp only [Tli.offer, Tli.choose]
  split <;> split <;> (try split) <;> (try split) <;> (try split) <;> simp

/-- The queues of a TLI hold what they can hold, and an idle transmitter leaves nothing waiting. -/
def Tli.fits (t : Tli) : Prop :=
  t.directives.length ≤ 4 ∧ t.classA.length ≤ 24 ∧
  (t.sending = none → t.classA = [] ∧ t.weightSlot = none ∧ t.sampleSlot = none)

/-- An offer keeps the bounds of the link. -/
theorem offer_fits {t : Tli} (f : Frame) (h : t.fits) : (t.offer f).fits := by
  obtain ⟨hd, ha, hi⟩ := h
  cases hs : t.sending with
  | none =>
    obtain ⟨h1, -, -⟩ := hi hs
    rw [offer_sends f hs h1]
    exact ⟨hd, by simp [h1], by simp⟩
  | some g =>
    by_cases hr : t.classA.length < 24
    · rw [offer_joins f hs hr]
      exact ⟨hd, by simp; omega, by simp [hs]⟩
    · rw [offer_drops f hs hr]
      exact ⟨hd, ha, by simp [hs]⟩

/-! ## Answering -/

/-- An answer pops the directive in execution and offers its reply. -/
theorem answer_cons {s : State} {q : Queued} {rest : List Queued} (st : Status) (r : Result)
    (h : s.tli.directives = q :: rest) :
    answer st r s =
      replyTo q.ref q.directive.code st r { s with tli := { s.tli with directives := rest, executing := false } } := by
  simp [answer, h]

/-- An answer writes nothing but the terminal link. -/
theorem answer_eq (st : Status) (r : Result) (s : State) : answer st r s = { s with tli := (answer st r s).tli } := by
  simp only [answer]; split <;> rfl

/-- An answer to a held directive writes nothing but the terminal link. -/
theorem answerHeld_eq (st : Status) (r : Result) (s : State) :
    answerHeld st r s = { s with tli := (answerHeld st r s).tli } := by
  simp only [answerHeld]
  split
  · exact answer_eq st r s
  · rfl

/-! ## Store updates -/

/-- Handing an update writes nothing but the STC's queue. -/
theorem handUpdate_eq (u : Update) (s : State) :
    handUpdate u s = { s with stc := { s.stc with queue := (handUpdate u s).stc.queue } } := by
  simp only [handUpdate]; split <;> rfl

/-- With the fault flag clear the update joins the newest end of the queue. -/
theorem handUpdate_clear {s : State} (u : Update) (h : s.stc.fault = false) :
    handUpdate u s = { s with stc := { s.stc with queue := s.stc.queue ++ [u] } } := by
  simp [handUpdate, h]

/-! ## Deliveries -/

/-- A property that every delivery keeps, and that does not read the counter of free orders, survives deliveries in any
order. -/
theorem takeDeliveries_keeps {P : State → Prop} (hfree : ∀ s n, P s → P { s with freeCount := n }) :
    ∀ (n : Nat) (acts : List (State → State)) (s : State), (∀ act ∈ acts, ∀ s, P s → P (act s)) → P s →
      P (takeDeliveries n acts s)
  | 0, _, _, _, hs => hs
  | n + 1, acts, s, ha, hs => by
    simp only [takeDeliveries]
    split
    · next act hact =>
      refine takeDeliveries_keeps hfree n _ _ (fun a h => ha a (List.mem_of_mem_eraseIdx h)) ?_
      exact ha act (List.mem_of_getElem? hact) _ (hfree s _ hs)
    · exact hs

/-- The same for deliveries whose order does not show. -/
theorem inAnyOrder_keeps {P : State → Prop} (hfree : ∀ s n, P s → P { s with freeCount := n }) (shows : Bool)
    (acts : List (State → State)) (s : State) (ha : ∀ act ∈ acts, ∀ s, P s → P (act s)) (hs : P s) :
    P (inAnyOrder shows acts s) := by
  simp only [inAnyOrder]
  split
  · exact takeDeliveries_keeps hfree _ acts s ha hs
  · induction acts generalizing s with
    | nil => exact hs
    | cons a rest ih => exact ih (a s) (fun b h => ha b (by simp [h])) (ha a (by simp) s hs)

/-! ## Execution and the form of a command -/

/-- A property kept by every directive and by the recomputation of the outputs survives a round of the directive
queue. -/
theorem drain_keeps {P : State → Prop} (hrun : ∀ d s, P s → P (runDirective d s)) (hlit : ∀ s, P s → P (refreshLights s)) :
    ∀ (n : Nat) (s : State), P s → P (drain n s)
  | 0, _, hs => hs
  | n + 1, s, hs => by
    simp only [drain]
    split
    · split
      · exact hs
      · exact drain_keeps hrun hlit n _ (hlit _ (hrun _ _ hs))
    · exact hs

/-- The same for what follows every handling. -/
theorem finish_keeps {P : State → Prop} (hrun : ∀ d s, P s → P (runDirective d s)) (hlit : ∀ s, P s → P (refreshLights s))
    (s : State) (hs : P s) : P (finish s) := by
  simp only [finish]
  split
  · exact hs
  · exact drain_keeps hrun hlit _ _ (hlit s hs)

/-- Every command handled at a timebase reading answers a next state. -/
theorem handle_next (now : Stamp) (effect : State → State) (s : State) :
    handle now effect s = .next (if s.powered then finish (effect (atTime now s)) else s) := rfl

/-- What follows a handling that leaves no directive to execute. -/
theorem finish_idle {s : State} (hc : s.stc.checking = false) (hd : s.tli.directives = []) :
    finish s = refreshLights s := by
  simp [finish, hc, hd, drain]

/-- A round of the queue while a directive holds it does nothing. -/
theorem drain_held {s : State} (he : s.tli.executing = true) (n : Nat) : drain n s = s := by
  cases n <;> simp [drain, State.mayExecute, he]

/-- What follows a handling while a directive holds the queue. -/
theorem finish_held {s : State} (hc : s.stc.checking = false) (he : s.tli.executing = true) :
    finish s = refreshLights s := by
  simp only [finish, hc, Bool.false_eq_true, if_false]
  exact drain_held (s := refreshLights s) he _

/-- A directive that has arrived at an empty queue, as its owner finds it. -/
def queued (now : Stamp) (ref : Byte) (d : Directive) (s : State) : State :=
  refreshLights { atTime now s with tli := { s.tli with directives := [⟨ref, d⟩] } }

/-- A well-formed directive that arrives at a ready part is judged by its owner at once. -/
theorem arrive_ready {s : State} (h : s.ready) (now : Stamp) (ref : Byte) {d : Directive} (hw : d.wellFormed = true) :
    arrive now ref d s = .next (refreshLights (runDirective d (queued now ref d s))) := by
  obtain ⟨⟨hp, hc⟩, hd, he⟩ := h
  simp [arrive, handle, hp, submit, hw, enqueue, hd, Config.directiveCapacity, finish, hc, drain, State.mayExecute, he,
    queued]

/-- The conditions of the outputs do not read the outputs. -/
theorem lightConditions_refresh (s : State) : (refreshLights s).lightConditions = s.lightConditions := rfl

/-- Recomputing the outputs twice is recomputing them once. -/
theorem refreshLights_twice (s : State) : refreshLights (refreshLights s) = refreshLights s := rfl

/-- The link as the directive in execution leaves it when it is answered and nothing else waits. -/
def Tli.unqueued (t : Tli) : Tli := { t with directives := [], executing := false }

/-- An offer does not see the directive queue. -/
theorem offer_unqueued (f : Frame) (t : Tli) : (t.offer f).unqueued = t.unqueued.offer f := by
  simp only [Tli.unqueued, Tli.offer, Tli.choose]
  cases t.sending <;> by_cases h : t.classA.length < 24 <;> simp [Config.classACapacity, h]
  all_goals (cases t.classA <;> (try cases t.weightSlot) <;> (try cases t.sampleSlot) <;> simp_all)

/-- An answer to the only directive in the queue empties it and offers the reply. -/
theorem answer_only {s : State} {q : Queued} (st : Status) (r : Result) (h : s.tli.directives = [q]) :
    answer st r s = replyTo q.ref q.directive.code st r { s with tli := s.tli.unqueued } :=
  answer_cons st r h

/-- The same for a directive that holds the queue. -/
theorem answerHeld_only {s : State} {q : Queued} (st : Status) (r : Result) (h : s.tli.directives = [q])
    (he : s.tli.executing = true) :
    answerHeld st r s = replyTo q.ref q.directive.code st r { s with tli := s.tli.unqueued } := by
  simp only [answerHeld, he, if_true]
  exact answer_only st r h

/-- A ready part's link is what a directive that has arrived finds, its queue apart. -/
theorem queued_unqueued {s : State} (h : s.ready) (now : Stamp) (ref : Byte) (d : Directive) :
    (queued now ref d s).tli.unqueued = s.tli := by
  obtain ⟨-, hd, he⟩ := h
  cases s with
  | mk a b c d e f g h i tli => cases tli; simp_all [queued, Tli.unqueued, refreshLights, atTime]

/-- A held part is calm. -/
theorem held_calm {s : State} {ref : Byte} {d : Directive} (h : s.held ref d) : s.calm := ⟨h.1, .inr h.2.2⟩

/-- A ready part is calm. -/
theorem ready_calm {s : State} (h : s.ready) : s.calm := ⟨h.1, .inl h.2.1⟩

/-- A command that has no directive to do with, taken in a calm state: its effect, with the outputs recomputed. -/
theorem handle_calm {s t : State} {now : Stamp} {effect : State → State} (h : s.calm)
    (he : effect (atTime now s) = atTime now t) (hc : t.stc.checking = false) (hd : t.tli.directives = s.tli.directives)
    (hx : t.tli.executing = s.tli.executing) : handle now effect s = .next (taken now t) := by
  obtain ⟨⟨hp, -⟩, hq⟩ := h
  simp only [handle, hp, if_true, he]
  rcases hq with hq | hq
  · rw [finish_idle (s := atTime now t) hc (hd.trans hq)]; rfl
  · rw [finish_held (s := atTime now t) hc (hx.trans hq)]; rfl

/-- A command taken while a directive holds the queue, whose effect leaves the queue empty. -/
theorem handle_held {s t : State} {now : Stamp} {effect : State → State} {ref : Byte} {d : Directive} (h : s.held ref d)
    (he : effect (atTime now s) = atTime now t) (hc : t.stc.checking = false) (hd : t.tli.directives = []) :
    handle now effect s = .next (taken now t) := by
  obtain ⟨⟨hp, -⟩, -⟩ := h
  simp only [handle, hp, if_true, he]
  rw [finish_idle (s := atTime now t) hc hd]
  rfl

/-! ## A change of the set in use -/

/-- A change of the set in use writes nothing but the decks and the Axle Monitor. -/
theorem setChanged_eq (old : CalSet) (reload : Bool) (s : State) :
    setChanged old reload s = { s with wge := (setChanged old reload s).wge, axm := (setChanged old reload s).axm } := by
  simp only [setChanged, axlesUnder]
  split
  · rfl
  · split <;> rfl

/-- The end of calibration mode writes nothing but the decks, the Axle Monitor and the Calibration Unit. -/
theorem endCalibration_eq (s : State) :
    endCalibration s =
      { s with wge := (endCalibration s).wge, axm := (endCalibration s).axm, clu := { staged := none, openingRecorded := false } } := by
  simp only [endCalibration]
  split
  · rw [setChanged_eq]
  · next h => rw [← h]

/-! ## The reply window -/

/-- In a window that holds six characters a reply is judged by the eight checks alone. -/
theorem judgeReplyIn_long {x : Site} (node : Nat) (last : Option Nat) (received : List CellChar) (h : x.holdsReply = true) :
    judgeReplyIn x node last received = judgeReply node last received := by
  simp [judgeReplyIn, h]

/-- In a shorter window nothing that arrives is valid. -/
theorem judgeReplyIn_short {x : Site} {node : Nat} {last : Option Nat} {received : List CellChar} {r : SampleReply}
    (h : x.holdsReply = false) : judgeReplyIn x node last received ≠ .valid r := by
  simp only [judgeReplyIn, h, Bool.false_or]
  split
  · next hc =>
    unfold judgeReply
    by_cases he : received.isEmpty = true
    · simp [he]
    · simp only [he, Bool.false_or] at hc ⊢
      by_cases hp : received.all (·.parityOk) = true
      · have hs : received.all (·.stopOk) = false := by simpa [hp] using hc
        simp [hp, hs]
      · simp [hp]
  · simp

/-! ## The group list -/

/-- The groups sent of a list take no more bytes than the room there is. -/
theorem groupsWithin_length (room : Nat) (groups : List AxleGroup) :
    ((groupsWithin room groups).flatMap (·.bytes)).length ≤ room := by
  induction groups generalizing room with
  | nil => simp [groupsWithin]
  | cons g rest ih =>
    simp only [groupsWithin]
    split
    · have := ih (room - g.bytes.length)
      simp only [List.flatMap_cons, List.length_append]
      omega
    · simp

/-- A list that fits is sent whole. -/
theorem groupsWithin_whole (room : Nat) (groups : List AxleGroup) (h : (groups.flatMap (·.bytes)).length ≤ room) :
    groupsWithin room groups = groups := by
  induction groups generalizing room with
  | nil => rfl
  | cons g rest ih =>
    simp only [List.flatMap_cons, List.length_append] at h
    simp only [groupsWithin, show g.bytes.length ≤ room by omega, if_true]
    rw [ih (room - g.bytes.length) (by omega)]

end Sys2Proof.Machine
end

