-- ==== Sys2Proof/Tests/Slice0.lean ====
section
/-! SUPPORT. Tests. Their expected values come from spec/: the worked examples of R2, R25, R193, R194 and the tables of each
chapter, or are computed by hand from a rule. The witnesses at the end show, for each statement with hypotheses, states and
operands that meet the hypotheses of each of its clauses. -/

namespace Sys2Proof.Tests

open Sys2Proof Sys2Proof.Machine

/-! ## Form -/

/-- A site block of 24 bytes is refused. -/
theorem test_form_putSite : (Instr.putSite 0 0 (List.replicate 24 0)).wellFormed = false := by decide

/-- A line test with 47 characters is refused. -/
theorem test_form_lineTestComplete : (Instr.lineTestComplete 0 (List.replicate 47 none)).wellFormed = false := by decide

/-- There is no node 0 and no node 17. -/
theorem test_form_nodeLost : (Instr.nodeLost 0 0).wellFormed = false ∧ (Instr.nodeLost 0 17).wellFormed = false := by decide

/-- There is no deck 4. -/
theorem test_form_deckFault : (Instr.deckFault 0 4).wellFormed = false := by decide

/-- There is no deck 4. -/
theorem test_form_zeroTrackCorrection : (Instr.zeroTrackCorrection 0 4).wellFormed = false := by decide

/-- No frame is longer than 255 characters. -/
theorem test_form_frameReceived : (Instr.frameReceived 0 (List.replicate 256 ⟨0, true⟩)).wellFormed = false := by
  decide +kernel

/-! ## Bytes on the links -/

/-- R193's check value: the CRC of the nine bytes 31h to 39h is 29B1h. -/
theorem test_crc : crc16 [0x31, 0x32, 0x33, 0x34, 0x35, 0x36, 0x37, 0x38, 0x39] = 0x29B1 := by
  decide +kernel

/-- The example of R206: the poll of node 7 with the SAMPLE command. -/
theorem test_poll_frame : pollFrame 7 .sample = [0x87, 0x01, 0x77] := by decide

/-- The example of R204: RELEASE_TICKET of ticket 5,100 with reference 3Ch. -/
theorem test_directive_bytes : encodeDirective 0x3C (.releaseTicket 5100) = [0x15, 0x3C, 0x00, 0x00, 0x13, 0xEC] := by decide

/-- R194: an unknown code is no directive. -/
theorem test_unknown_code : judgePayload [0x26, 0x01] = .unknown 0x01 0x26 := by decide

/-- R194: a known code with a byte too many is malformed. -/
theorem test_malformed : judgePayload [0x15, 0x3C, 0, 0, 0x13, 0xEC, 0] = .malformed 0x3C 0x15 := by decide

/-- The sample frame of R206's example: node 7, sequence 11, no flags, count 1,250,000. -/
theorem test_sample_reply :
    judgeReply 7 none ([0x87, 0xB0, 0x13, 0x12, 0xD0, 0xD3].map fun b => ⟨b, true, true⟩) =
      .valid ⟨11, false, false, false, 1250000⟩ := by decide

/-- The same frame a second time brings a repeated sequence number (R7). -/
theorem test_sample_stale :
    judgeReply 7 (some 11) ([0x87, 0xB0, 0x13, 0x12, 0xD0, 0xD3].map fun b => ⟨b, true, true⟩) = .error .stale := by decide

/-- R205, R206: the payloads of a WEIGHT frame and of an AUDIT ticket take 55 and 33 bytes. -/
theorem test_payload_lengths :
    (WeightFrame.bytes ⟨weightRecord 0 State.reset, .none⟩).length = 55 ∧
      (ticketBytes false 21 ⟨5119, ⟨2031, 11, 19, 11, 31, 12⟩, 18, .audit ⟨true, [], 6, 6, 0, some (-220), none⟩⟩).length = 33 := by
  decide

/-- R192: LEN 06h on TL_TX is a start bit, the data least significant bit first and a stop bit; R1: 87h on CL_TX carries an
even-parity bit before the stop bit. -/
theorem test_character_bits :
    linkCharBits 0x06 = [false, false, true, true, false, false, false, false, false, true] ∧
      cellCharBits 0x87 = [false, true, true, true, false, false, false, false, true, false, true] := by decide

/-- A character on either link is read back as it was sent. -/
theorem test_characters_read_back :
    linkCharOf (linkCharBits 0x95) = ⟨0x95, true⟩ ∧ cellCharOf (cellCharBits 0x95) = ⟨0x95, true, true⟩ := by decide

/-- R1: a reply window of 286 µs is shorter than six characters, and one of 287 µs holds them. -/
theorem test_short_window :
    let reply : List CellChar := [0x81, 0xB0, 0x00, 0x00, 0x00, 0xCE].map fun b => ⟨b, true, true⟩
    judgeReplyIn { Site.default with replyWindow := 286 } 1 none reply = .error .length ∧
      judgeReplyIn { Site.default with replyWindow := 287 } 1 none reply = .valid ⟨11, false, false, false, 0⟩ := by decide

/-- R204: the damaged areas of STORE_FAULT are a list behind its number of items. -/
theorem test_damaged_areas : (StoreCause.damaged ⟨false, true, true, false⟩).bytes = [0x02, 0x02, 0x02, 0x03] := by decide

/-! ## Arithmetic of the worked examples -/

/-- Cell B of the worked scan of chapter 02. -/
theorem test_cell_weight : CellCal.weight ⟨50000, 262144, 33096, 0, 100⟩ 1250000 = 4848047 := by decide

/-- F and the two indications of the worked scan. -/
theorem test_filter_and_indication :
    roundDiv 72159800 4 = 18039950 ∧ indicate 20 18039950 1 = 18040 ∧ indicate 20 39509960 1 = 39500 := by decide

/-- "Rounding at the edges": halves go away from zero on both sides. -/
theorem test_rounding_edges :
    [9999, 10000, -10000, -9999, 30000, -30000, 1603590000].map (indicate 20 · 1) = [0, 20, -20, 0, 40, -40, 1603600] := by
  decide

/-- R43 with Max 80,000 kg and d 20 kg. -/
theorem test_bridge_range :
    let c : CalSet := { CalSet.factory with maxLoad := 80000 }
    [80180, 80200, -400, -420].map (bridgeRange c []) = [.inRange, .overRange, .inRange, .underRange] := by decide

/-- "Folding tags to mask indices" with salt 10. -/
theorem test_hold_index : [0x00A35C71, 0xFFFFFFFF, 0x00000001].map (holdIndex · 10) = [23, 54, 11] := by decide

/-- The interval across the timebase's wrap, and R67's speeds. -/
theorem test_crossing : elapsed 4294900450 119550 = 186396 ∧ crossingSpeed 600 420000 = 1428 ∧ crossingSpeed 600 450000 = 1333 := by
  decide

/-- The axle loads of the runt example: 10 and 56 remaining samples. -/
theorem test_axle_load : indicate 20 60920000 10 = 6100 ∧ indicate 20 461053600 56 = 8240 := by decide

/-- The readings and MPE of the audit example, in units of 0.1 kg. -/
theorem test_audit_points :
    [1800, 10007100, 40012700, 59978900, -2300].map (loadReading 20) = [20, 100080, 400120, 599780, -20] ∧
      [0, 10000, 40000, 60000].map (loadMpe 20) = [100, 100, 200, 300] := by decide

/-- The reference point of the audit example. -/
theorem test_reference_point :
    let c : CalSet := { CalSet.factory with cells := List.replicate 16 ⟨0, 65536, 32768, 4194200, 100⟩ }
    referencePoint c ⟨6, 8, 33553884, 9⟩ 3 =
      ⟨3, true, .reference ⟨6, 8, some 4194236, 4194200, 100, some 36, false⟩⟩ := by decide

/-- An axle of a final list, for the semi-trailer example. -/
def axle (index spacing : Nat) (load : Int) : AxleRecord :=
  ⟨some index, some 0, some 1390, if index = 1 then none else some spacing, some load, 20, ⟨false, false, false, false, false⟩, none⟩

/-- The six-axle semi-trailer of chapter 04: its groups, verdict, worst excess and flags. -/
theorem test_semi_trailer :
    let list := numberGroups 2500 0
      [axle 1 0 6480, axle 2 3640 8120, axle 3 1310 8300, axle 4 6920 7000, axle 5 1360 7060, axle 6 1355 7040]
    let r := axleResult list false (some ⟨5, 6, 6500, 16500, 20000, 23000, 42500⟩) 44040
    r.groups.map (·.excess) = [some (-20), some (-80), some 1100] ∧
      r.summary = ⟨6, 3, .exceeded, some 1100⟩ ∧ r.axleCountFlag = false ∧ r.grossOver = true := by decide

/-- A leap day carries into March; 2099 ends without a next second (R211). -/
theorem test_calendar :
    CalTime.tick ⟨2028, 2, 29, 23, 59, 59⟩ = some ⟨2028, 3, 1, 0, 0, 0⟩ ∧ CalTime.tick ⟨2099, 12, 31, 23, 59, 59⟩ = none := by
  decide

/-! ## States for the tests -/

/-- The part in a run state, else as reset leaves it. -/
def inState (r : RunState) : State := { State.reset with rnc := { State.reset.rnc with runState := r } }

/-- The part in RUN. -/
def running : State := inState .run

/-- A passage in a state. -/
def truck (st : PassageState) : Passage :=
  { number := 7, state := st, intruder := false, runThrough := false, identity := none, capture := none, axles := none, holds := []
    ticket := none }

/-- The identity of tag 1. -/
def tag1 : Identity := ⟨1, .receival, false, false, none, none, false, false⟩

/-- The part with a passage. -/
def withTruck (p : Passage) (s : State) : State := { s with psu := { s.psu with passage := some p } }

/-- A deck at its zero. -/
def deck0 : Deck :=
  { zero := 0, initialZero := some 0, filter := [0], stability := [0], value := some 0, hold := 0, faulted := false
    state := .valid, stable := true, overFlag := false, trackRun := 0, zeroLimit := false }

/-- The part with deck 0 alone. -/
def withDeck (d : Deck) (s : State) : State := { s with wge := { s.wge with decks := [some d, none, none, none] } }

/-- A calibration set whose deck 0 has nodes 1 and 2. -/
def twoCells : CalSet :=
  { CalSet.factory with decks := [⟨0x0003, true, 0⟩, DeckCal.factory, DeckCal.factory, DeckCal.factory] }

/-- The part with a committed set. -/
def withSet (c : CalSet) (s : State) : State :=
  { s with stc := { s.stc with store := { s.stc.store with calibration := { s.stc.store.calibration with set := c } } } }

/-- The part with a staged set. -/
def staging (c : CalSet) (s : State) : State := { s with clu := { s.clu with staged := some c } }

/-- The part with an audit open. -/
def auditing (session : Session) (s : State) : State := { s with vfu := { s.vfu with session := some session } }

/-- A session without points. -/
def fresh : Session := ⟨none, [], none⟩

/-- A load point of 0 kg. -/
def zeroPoint : Point := ⟨1, true, .load ⟨.bridge, 0, 0, 0, 100⟩⟩

/-- The part with updates in the store's queue. -/
def writing (queue : List Update) (s : State) : State := { s with stc := { s.stc with queue := queue } }

/-- The part with a frame on the line. -/
def busyLine (s : State) : State := { s with tli := { s.tli with sending := some (.event 0 .lineBreak) } }

/-- The part with n frames in the class A queue. -/
def queuedFrames (n : Nat) (s : State) : State :=
  { busyLine s with tli := { (busyLine s).tli with classA := List.replicate n (.event 0 .lineBreak) } }

/-- The part with a directive that holds the queue. -/
def heldBy (d : Directive) (s : State) : State := { s with tli := { s.tli with directives := [⟨9, d⟩], executing := true } }

/-- The part with n directives in the queue, the oldest in execution. -/
def heldQueue (n : Nat) : State :=
  { State.reset with tli := { State.reset.tli with directives := List.replicate n ⟨9, .lineTest⟩, executing := true } }

/-- The part with one input's filter. -/
def withInput (i : YardInput) (f : InputFilter) (s : State) : State := { s with ylu := s.ylu.setFilter f i }

/-- A filter with an accepted level and a candidate of the other level since 0. -/
def ripening (level : Bool) : InputFilter := ⟨level, some (!level), none, some ⟨level, 0⟩, none, 0⟩

/-- The part with the calendar set. -/
def clockSet (s : State) : State := { s with cck := { time := ⟨2031, 11, 19, 11, 5, 30⟩, isSet := true } }

/-- The part with CAL_SWITCH accepted closed. -/
def switchClosed (s : State) : State := withInput .calSwitch ⟨true, some true, none, none, none, 0⟩ s

/-- The part VERIFIED. -/
def verified (s : State) : State := { s with stc := { s.stc with store := { s.stc.store with reasons := [] } } }

/-- The part with a weight record. -/
def withRecord (r : WeightRecord) (s : State) : State := { s with wge := { s.wge with latest := some r } }

/-- A record of an empty bridge, with deck 0 VALID and stable at 0 g. -/
def record0 : WeightRecord :=
  ⟨1, 1, [some ⟨true, .valid, some 0, some 0, true, false, false⟩, none, none, none], 0, .inRange, true, true, false, false⟩

/-- The part with the store fault flag set. -/
def faulted (s : State) : State := { s with stc := { s.stc with fault := true } }

/-- A certificate with number 1. -/
def ticket1 : Ticket := ⟨1, ⟨2031, 11, 19, 11, 5, 30⟩, 1, .audit ⟨true, [], 0, 0, 0, none, none⟩⟩

/-- The part with ticket 1 posted in slot 0 and the fill pointer at a slot. -/
def posted (fill : Nat) (s : State) : State :=
  { s with stc := { s.stc with store := { s.stc.store with
      ticket := ⟨2, some ticket1 :: List.replicate 31 none, fill⟩ } } }

/-- An open transaction of tag 1. -/
def open1 : OpenEntry := ⟨1, .receival, 1, 44040, ⟨2031, 11, 19, 11, 5, 30⟩, 1, none⟩

/-- The part with tag 1's transaction open. -/
def withOpen (s : State) : State :=
  { s with stc := { s.stc with store := { s.stc.store with
      transaction := { s.stc.store.transaction with table := [open1], firstCount := 1 } } } }

/-- The part with vehicles in its table. -/
def withVehicles (vs : List Vehicle) (s : State) : State := { s with vtb := { s.vtb with vehicles := vs } }

/-- The Cell Line Controller with a line state, scan, attempt and timer. -/
def onLine (line : LineState) (scan : Option Scan) (attempt : Option Attempt) (timer : Option Stamp) (s : State) : State :=
  { s with clc := { s.clc with line := line, scan := scan, attempt := attempt, scanTimer := timer } }

/-- A scan of nodes 1 and 2 at its first poll, and that poll. -/
def scan12 : Scan := ⟨1, [1, 2], [(1, .awaiting), (2, .awaiting)], [], []⟩

/-- The first poll of node 1. -/
def poll1 : Attempt := ⟨1, 1, .sample⟩

/-- The part checking axles with an open pairing. -/
def pairing (p : Option Pairing) (s : State) : State :=
  { s with axm := { Axm.cleared with checking := true, pairing := p } }

/-! ## The passage record in READ_STATUS -/

/-- The capture of the worked example's weight. -/
def capture1 : Capture := ⟨44040, 1, 0, ⟨2031, 11, 19, 11, 5, 30⟩, 1⟩

/-- A captured passage of an identity. -/
def weighed (i : Identity) : Passage := { truck .captured with identity := some i, capture := some capture1 }

/-- Tag 2, one-pass with a preset tare that is allowed. -/
def tag2 : Identity := ⟨2, .receival, true, true, some 1, some 14240, true, false⟩

/-- A group of one axle above its limit. -/
def oneAxle (i : Nat) : AxleGroup := ⟨.single, [i], some 12000, some 2000, .exceeded⟩

/-- A passage with every field present and n groups. -/
def wholePassage (n : Nat) : Passage :=
  { weighed tag2 with
    axles := some ⟨(List.range n).map oneAxle, ⟨n, n, .exceeded, some 2000⟩, true, true⟩, holds := [.overload], ticket := some 5219 }

/-- R103, R204: the group list stands in the record of READ_STATUS, behind its number of groups; the payload keeps R193's 250 bytes
with a single axle in each of twelve groups (log 32). -/
theorem test_status_groups :
    (AxleResult.bytes ⟨[oneAxle 1], ⟨1, 1, .exceeded, some 2000⟩, true, true⟩).take 14 =
        [1, 1, 1, 1, 1, 0, 0, 0x2E, 0xE0, 1, 0, 0, 0x07, 0xD0] ∧
      groupsWithin groupRoom ((List.range 6).map oneAxle) = (List.range 6).map oneAxle ∧
      (Frame.payload (.reply ⟨1, 0x25, .done, .status (statusReport (withTruck (wholePassage 12) State.reset))⟩)).length ≤ 250 := by
  decide +kernel

/-- R46, R204: in READ_WEIGHT's reply a deck without cells is not configured, 2, with zeros for its other fields; in READ_STATUS NONE
has its place in R201's list, and no store case is an absent field (log 39). -/
theorem test_record_forms :
    ((record0.bytes.drop 8).take 32 =
        [1, 1, 4, 1, 0, 0, 0, 0, 1, 0, 0, 0, 0, 1, 2, 2] ++ (2 :: List.replicate 15 0)) ∧
      Condition.none.number = 9 ∧ [StoreCase.clear, .writeFault, .unusable].map (·.bytes) = [[0, 0], [1, 1], [1, 2]] := by
  decide

/-- R84's table: OVER 1, UNRATED 2, OK 3 in an axle summary; R92 and R93: one byte for DROP_VEHICLE's entries left, two for
CLEAR_VEHICLES's count. -/
theorem test_report_forms :
    [Verdict.exceeded, .unrated, .ok].map (fun v => (AxleSummary.bytes ⟨2, 1, v, none⟩).getD 2 0) = [1, 2, 3] ∧
      (Result.count 255).bytes 0x0C = [0xFF] ∧ (Result.count 256).bytes 0x0D = [1, 0] := by
  decide

/-! ## Single steps -/

/-- A field of the state a command leads to. -/
def after {α : Type} (o : Answer) (f : State → α) : Option α :=
  match o with
  | .next s => some (f s)
  | _ => none

/-- R47: no record is published in HALTED, and none is offered. -/
theorem test_no_offer_in_halted :
    let s : State := { State.reset with wge := { State.reset.wge with latest := some record0, streamCount := 4 } }
    after (exec (.streamOffer 5) s) (·.wge.streamCount) = some 4 := by decide

/-- Correction 3 of the worked example of chapter 02: F 8,800 g is cut to 3,600 g. -/
theorem test_tracking_cut :
    let d := Deck.tracked { CalSet.factory with maxLoad := 80000 } 1212400 8800
      { deck0 with zero := 2808800, initialZero := some 1212400, value := some 8800 }
    d.zero = 2812400 ∧ d.value = some 5200 ∧ d.zeroLimit = true := by decide

/-- The candidate of a loop with chatter is accepted with its own timestamp once it has held for 100,000 µs. -/
theorem test_loop_accepts :
    let s := withInput .exitLoop ⟨true, some false, none, some ⟨true, 61262000⟩, none, 2⟩ State.reset
    after (exec (.filterAccept 61361999 .exitLoop) s) (·.ylu.exitLoop.accepted) = some (some false) ∧
      after (exec (.filterAccept 61362000 .exitLoop) s) (·.ylu.exitLoop.last) = some (some ⟨true, 61262000⟩) := by decide

/-- With the transmitter idle a reply is on the line at once (R200). -/
theorem test_reply_sent :
    after (exec (.readSite 5 0x3C) State.reset) (·.tli.sending) =
      some (some (.reply ⟨0x3C, 0x05, .done, .site .default⟩)) := by decide

/-- ENTER_CAL in HALTED is refused (R157). -/
theorem test_enter_cal_refused :
    after (exec (.enterCal 5 1) State.reset) (·.tli.sending) = some (some (.reply ⟨1, 0x19, .wrongState, .nothing⟩)) := by decide

/-- A dispatch of R135's checks: with every condition met the request is accepted. -/
theorem test_request_accepted :
    requestOutcome (verified running)
      { truck .captured with identity := some tag1, capture := some ⟨44040, 1, 0, ⟨2031, 11, 19, 11, 5, 30⟩, 1⟩ } = .accepted := by
  decide

/-! ## Witnesses: states and operands that meet the hypotheses of the statements -/

theorem witness_StepRunsFrontCommand : ({ State.reset with pending := [.powerLoss] } : State).pending = .powerLoss :: [] := rfl

theorem witness_IdleStepCountsTimebase :
    (State.reset.pending = [] ∧ State.reset.powered = true) ∧
      (powerLost State.reset).pending = [] ∧ (powerLost State.reset).powered = false := by decide

/-- The four invariants hold in a state that has a step. -/
theorem witness_invariants :
    (State.reset.lightsFollow ∧ State.reset.linkFits ∧ State.reset.balanced ∧
      ∀ i d, i < 4 → State.reset.wge.deck i = some d → d.zeroWithin State.reset.setInUse) ∧
      step State.reset = .next (idleStep State.reset) := by
  refine ⟨⟨fun _ => by decide, ?_, ?_, fun i d hi h => ?_⟩, rfl⟩
  · unfold State.linkFits; decide
  · unfold State.balanced; decide
  · have none_there : ∀ i, i < 4 → State.reset.wge.deck i = none := by decide
    rw [none_there i hi] at h
    cases h

theorem witness_StoreChangesOnlyByUpdates :
    (∀ now, Instr.powerLoss ≠ .storeUpdateComplete now) ∧ exec .powerLoss State.reset = .next (powerLost State.reset) :=
  ⟨fun _ h => (by cases h), rfl⟩

/-- The part VERIFIED in RUN with 64 transactions of tag 1 in its table. -/
def fullTable : State :=
  let s := verified running
  { s with stc := { s.stc with store := { s.stc.store with
      transaction := { s.stc.store.transaction with table := List.replicate 64 open1 } } } }

/-- A request not made, each refusal's state with those before it passed, a SECOND, a ONE_PASS and a FIRST ticket, and a
request in good order. -/
theorem witness_TicketRequestAccepted :
    ((truck .onBridge).state ≠ .captured ∧ State.reset.rnc.runState ≠ .run ∧ .unlisted ∉ [HoldReason.probe, .overload, .unstable]) ∧
      ((weighed tag1).identity = some tag1 ∧ (weighed tag1).state = .captured ∧ (weighed tag1).intruder = false ∧
        (weighed tag1).holds = [] ∧ (weighed tag1).capture = some capture1) ∧
      ((faulted (verified running)).rnc.runState = .run ∧ (faulted (verified running)).stc.fault = true) ∧
      (running.stc.fault = false ∧ running.stc.damaged.ticket = false ∧ running.stc.damaged.transaction = false ∧
        running.stc.store.ticket.next ≠ 0 ∧ running.reasonSet ≠ []) ∧
      ((posted 0 (verified running)).reasonSet = [] ∧ (posted 0 (verified running)).fillSlotPosted = true) ∧
      (fullTable.rnc.runState = .run ∧ fullTable.reasonSet = [] ∧ fullTable.fillSlotPosted = false ∧
        (∀ e ∈ fullTable.stc.store.transaction.table, e.tag ≠ 2) ∧ 64 ≤ fullTable.stc.store.transaction.table.length ∧
        tag1.onePass = false) ∧
      (findOpen 1 (withOpen running).stc.store.transaction.table = some open1 ∧
        findOpen 2 (withOpen running).stc.store.transaction.table = none ∧
        tag2.onePass = true ∧ tag2.presetAllowed = true ∧ tag2.tare = some 14240) ∧
      requestOutcome (verified running) (weighed tag1) = .accepted := by
  decide +kernel

theorem witness_RoundingIsNearest :
    (0 < 2 ∧ 2 * ((5 : Int) - (2 : Nat) * roundDiv 5 2).natAbs = 2) ∧
      (deckOver CalSet.factory [⟨1, 8388607, true⟩] = true ∧ deckOver CalSet.factory [⟨1, 0, false⟩] = false) ∧
      ((CalSet.factory.maxLoad : Int) + 9 * CalSet.factory.division < 60200 ∧ ¬ (60180 : Int) > 60000 + 9 * 20 ∧
        (-420 : Int) < -20 * (CalSet.factory.division : Int) ∧ ¬ (-400 : Int) < -20 * (CalSet.factory.division : Int)) := by
  decide

theorem witness_DirectivePayloadRoundTrip : (Directive.putSite (List.replicate 25 0)).wellFormed = true := by decide

/-- 99h and 00h and 26h are no codes; no directive of code 01h has a parameter byte; a type that is not DIRECTIVE. -/
theorem witness_DirectiveFrameReceived :
    (State.reset.calm ∧ State.reset.tli.framer = .hunt ∧ Directive.start.wellFormed = true) ∧
      ([0x00] : List Byte).length = 1 ∧ (List.replicate 250 (0 : Byte)).length ≤ 250 ∧
      ([0, 0] : List Byte) ≠ fieldBytes (crc16 (BitVec.ofNat 8 1 :: 0x01 :: [0x00])) 2 ∧
      ((0x02 : Byte) ≠ 0x01 ∧ 0x25 < (0x26 : Byte).toNat ∧ 1 ≤ (0x01 : Byte).toNat ∧ (0x25 : Byte).toNat ≤ 0x25) ∧
      (List.replicate 248 (0 : Byte)).length ≤ 248 ∧
      (∀ d : Directive, d.wellFormed = true → d.code = 0x01 → d.params.length ≠ ([0x00] : List Byte).length) := by
  refine ⟨?_, by decide, by decide +kernel, by decide +kernel, by decide, by decide +kernel, fun d _ h => ?_⟩
  · unfold State.calm State.awake; decide
  · cases d <;> simp_all [Directive.code, Directive.params]

/-- The part with the framer in a frame. -/
def framing (bytes : List Byte) : State := { State.reset with tli := { State.reset.tli with framer := .inFrame bytes } }

/-- Boundary characters of each case, and the ends of a frame of LEN 2: a wrong CRC, another TYPE, and READ_SITE's own. -/
theorem witness_FramerMoves :
    (State.reset.calm ∧ State.reset.tli.framer = .hunt) ∧ (framing []).calm ∧ (framing []).tli.framer = .inFrame [] ∧
      (⟨0xA5, true⟩ : LinkChar).data = 0xA5 ∧ (⟨0xA4, true⟩ : LinkChar).data ≠ 0xA5 ∧ (⟨251, true⟩ : LinkChar).data = 251 ∧
      250 < (251 : Byte).toNat ∧ (1 : Byte).toNat = 1 ∧ (framing [1]).calm ∧
      (framing [1]).tli.framer = .inFrame (1 :: []) ∧ ([] : List Byte).length + 1 < (1 : Byte).toNat + 3 ∧
      ((framing [1, 1, 0, 0]).tli.framer = .inFrame (1 :: [1, 0, 0]) ∧ ([1, 0, 0] : List Byte).length + 1 = (1 : Byte).toNat + 3 ∧
        (1 :: ([1, 0, 0] ++ [0]) : List Byte) ≠ [1, 1, 0] ++ fieldBytes (crc16 [1, 1, 0]) 2) ∧
      (([2, 0, 0] : List Byte).head? ≠ some 0x01 ∧ (framing [1, 2, 0, 0]).calm) ∧
      Directive.readSite.wellFormed = true ∧
      (BitVec.ofNat 8 (encodeDirective 9 .readSite).length :: 0x01 :: encodeDirective 9 .readSite : List Byte) =
        [2, 1, 5, 9] ∧
      fieldBytes (crc16 [2, 1, 5, 9]) 2 = [0x30, 0x44] ∧
      (framing ([2, 1, 5, 9] ++ [0x30])).tli.framer = .inFrame ([2, 1, 5, 9] ++ [0x30]) := by
  unfold State.calm State.awake
  decide +kernel

theorem witness_FramesAreQueuedAndChosen :
    ((queuedFrames 1 State.reset).calm ∧ (queuedFrames 1 State.reset).tli.classA = .event 0 .lineBreak :: []) ∧
      (let s : State := { State.reset with tli := { State.reset.tli with weightSlot := some ⟨record0, .none⟩ } }
       s.calm ∧ s.tli.classA = [] ∧ s.tli.weightSlot = some ⟨record0, .none⟩) ∧
      (let s : State := { State.reset with tli := { State.reset.tli with sampleSlot := some ⟨1, .normal, []⟩ } }
       s.calm ∧ s.tli.classA = [] ∧ s.tli.weightSlot = none ∧ s.tli.sampleSlot = some ⟨1, .normal, []⟩) ∧
      ((queuedFrames 23 State.reset).tli.classA.length < 24 ∧ 24 ≤ (queuedFrames 24 State.reset).tli.classA.length ∧
        (queuedFrames 24 State.reset).tli.sending = some (.event 0 .lineBreak)) := by
  unfold State.calm State.awake
  decide

theorem witness_ArrivalAtBusyQueue :
    ((heldQueue 3).awake ∧ (heldQueue 3).tli.executing = true ∧ (heldQueue 3).tli.directives.length < 4) ∧
      ((heldQueue 4).awake ∧ (heldQueue 4).tli.executing = true ∧ 4 ≤ (heldQueue 4).tli.directives.length) ∧
      Directive.readSite.wellFormed = true ∧ (Directive.putSite []).wellFormed = false := by
  unfold State.awake
  decide

theorem witness_StartEntersWarmup :
    (running.ready ∧ running.rnc.runState ≠ .halted) ∧
      (let s : State := { State.reset with stc := { State.reset.stc with damaged := ⟨true, false, false, false⟩ } }
       s.ready ∧ s.rnc.runState = .halted ∧ s.stc.damaged.calibration = true) ∧
      (State.reset.ready ∧ State.reset.rnc.runState = .halted ∧ State.reset.stc.damaged.calibration = false) := by
  unfold State.ready State.awake
  decide

/-- The part in RUN with node 3 commanded REFERENCE. -/
def strayNode : State := { running with clc := running.clc.setNode 3 { running.clc.node 3 with mode := .reference } }

theorem witness_HaltStopsTheRun :
    (State.reset.ready ∧ State.reset.rnc.runState = .halted) ∧
      (running.ready ∧ running.rnc.runState = .run ∧ running.stc.queue = [] ∧
        (((List.range 16).map (· + 1)).filter fun n => (running.clc.node n).inReference) = [] ∧ running.psu.passage = none) ∧
      ((withTruck (truck .arriving) (inState .warmup)).ready ∧ (withTruck (truck .arriving) (inState .warmup)).stc.queue = [] ∧
        (withTruck (truck .arriving) (inState .warmup)).psu.passage = some (truck .arriving)) ∧
      ((writing [.reason] running).ready ∧ (writing [.reason] running).stc.queue ≠ []) ∧
      (strayNode.ready ∧ strayNode.rnc.runState = .run ∧ strayNode.stc.queue = [] ∧ strayNode.clc.line = .normal ∧
        (((List.range 16).map (· + 1)).filter fun n => (strayNode.clc.node n).inReference) = 3 :: []) := by
  unfold State.ready State.awake
  decide

theorem witness_RunStateMovesOn :
    (let s : State := { inState .warmup with rnc := { (inState .warmup).rnc with warmupLength := 256, warmupCount := 255 } }
     s.calm ∧ s.rnc.runState = .warmup ∧ s.rnc.warmupLength ≤ s.rnc.warmupCount + 1) ∧
      (let s : State := { inState .warmup with rnc := { (inState .warmup).rnc with warmupLength := 256, warmupCount := 254 } }
       s.calm ∧ s.rnc.warmupCount + 1 < s.rnc.warmupLength) ∧
      (let s := heldBy .halt (inState .halting)
       s.held 9 .halt ∧ s.rnc.runState = .halting ∧ s.stc.queue = [] ∧ s.clc.attempt = none ∧ s.clc.haltTodo = [] ∧
         s.psu.passage = none) ∧
      (let s := heldBy .halt (withTruck (truck .captured) (inState .halting))
       s.held 9 .halt ∧ s.rnc.runState = .halting ∧ s.psu.passage = some (truck .captured)) ∧
      (let s := heldBy .halt (writing [.reason] (inState .halting))
       s.held 9 .halt ∧ s.rnc.runState = .halting ∧ s.stc.queue ≠ []) := by
  unfold State.calm State.held State.awake
  decide

theorem witness_RestartResetsTheBlocks :
    running.ready ∧
      (let s : State := { busyLine running with tli := { (busyLine running).tli with
          directives := ⟨9, .restart⟩ :: [⟨8, .readSite⟩], executing := true } }
       s.tli.directives = ⟨9, .restart⟩ :: [⟨8, .readSite⟩] ∧ s.tli.sending = some (.event 0 .lineBreak)) := by
  unfold State.ready State.awake
  decide

/-- The block of the default site settings (11 "Site settings"). -/
def defaultBlock : List Byte :=
  [20, 3, 232, 8, 4, 0, 100, 10, 2, 88, 7, 208, 7, 208, 0, 200, 0, 100, 2, 8, 9, 196, 60, 1, 1]

/-- The default block gives the default settings, and a scan period of 4 ms is its first flaw. -/
theorem test_site_block :
    siteOf defaultBlock = .default ∧ siteFlaw defaultBlock = none ∧ siteFlaw (defaultBlock.set 0 4) = some 0 := by decide

theorem witness_PutSiteReplacesTheBlock :
    (State.reset.ready ∧ ([] : List Byte).length ≠ 25 ∧ running.ready ∧ running.rnc.runState ≠ .halted) ∧
      (defaultBlock.length = 25 ∧ State.reset.rnc.runState = .halted ∧ siteFlaw (defaultBlock.set 0 4) = some 0) ∧
      siteFlaw defaultBlock = none ∧ (∀ i, i ≠ YardInput.calSwitch → (State.reset.ylu.filter i).candidate = none) ∧
        ((withInput .entryLoop (ripening true) State.reset).ylu.filter .entryLoop).candidate ≠ none := by
  refine ⟨?_, ?_, ?_, fun i _ => by cases i <;> rfl, by decide⟩
  · unfold State.ready State.awake; decide
  · decide
  · decide

theorem witness_ready : State.reset.ready := by
  unfold State.ready State.awake
  decide

theorem witness_ClockIsSetAndCounts :
    State.reset.ready ∧ (State.reset.calm ∧ State.reset.cck.isSet = false) ∧
      ((clockSet State.reset).calm ∧ (clockSet State.reset).cck.isSet = true) := by
  unfold State.ready State.calm State.awake
  decide

theorem witness_PowerAndStoreCheck :
    (let s := poweredOn false false ⟨false, false, false, false, false⟩ State.reset
     s.powered = true ∧ s.stc.checking = true ∧ s.tli.directives = [] ∧ s.tli.directives.length < 4 ∧
       Directive.readSite.wellFormed = true) ∧
      (let s := poweredOn false false ⟨false, false, false, false, false⟩ (verified State.reset)
       s.powered = true ∧ s.stc.checking = true ∧ s.tli.directives = [] ∧
         ({ s with stc := { s.stc with checking := false } } : State).reasonSet = []) ∧
      (let s := poweredOn false false ⟨false, false, false, false, false⟩ State.reset
       let s : State := { s with tli := { s.tli with directives := List.replicate 3 ⟨9, .readSite⟩ } }
       s.powered = true ∧ s.stc.checking = true ∧ s.tli.directives.length < 4 ∧ s.tli.directives ≠ []) := by
  decide

theorem witness_StatusIsRead :
    ((queuedFrames 23 State.reset).ready ∧ (queuedFrames 23 State.reset).tli.classA.length < 24) ∧
      ((queuedFrames 24 State.reset).ready ∧ 24 ≤ (queuedFrames 24 State.reset).tli.classA.length) := by
  unfold State.ready State.awake
  decide

/-- The part in a line test that a directive holds. -/
def testing : State :=
  heldBy .lineTest { State.reset with clc := { State.reset.clc with lineTest := true } }

theorem witness_LineTestCountsMismatches :
    (running.ready ∧ running.rnc.runState ≠ .halted) ∧ (State.reset.ready ∧ State.reset.rnc.runState = .halted) ∧
      (testing.held 9 .lineTest ∧ testing.clc.lineTest = true) ∧ (State.reset.calm ∧ State.reset.clc.lineTest = false) := by
  unfold State.ready State.calm State.held State.awake
  decide

theorem witness_NodeIsRead :
    State.reset.ready ∧ (0 : Byte).toNat = 0 ∧ 16 < (17 : Byte).toNat ∧ firstOrSecond 3 = none ∧
      (1 ≤ (16 : Byte).toNat ∧ (16 : Byte).toNat ≤ 16) ∧ firstOrSecond 2 = some false ∧ firstOrSecond 1 = some true := by
  unfold State.ready State.awake
  decide

/-- The part in RUN with two cells, its scan timer running since 0 and perhaps a scan in progress. -/
def scanning (line : LineState) (scan : Option Scan) : State := onLine line scan none (some 0) (withSet twoCells running)

theorem witness_ScanTimerBeginsScan :
    (let s := scanning .normal none
     s.calm ∧ s.rnc.runState = .run ∧ s.clc.scanTimer = some 0 ∧
       ((19999 : Stamp) - 0).toNat < s.rnc.site.scanPeriod * 1000 ∧ s.rnc.site.scanPeriod * 1000 ≤ ((20000 : Stamp) - 0).toNat ∧
       s.clc.scan = none ∧ s.clc.line = .normal ∧ s.setInUse.pollList = 1 :: [2]) ∧
      (let s := scanning .broken none
       s.calm ∧ s.clc.scanTimer = some 0 ∧ s.clc.scan = none ∧ s.clc.line = .broken ∧ s.tli.directives.length ≤ 1) ∧
      (let s := scanning .normal (some scan12)
       s.calm ∧ s.clc.scan = some scan12 ∧ s.clc.scanPending = false) ∧
      (let s : State := { scanning .normal (some scan12) with clc := { (scanning .normal (some scan12)).clc with scanPending := true } }
       s.calm ∧ s.clc.scan = some scan12 ∧ s.clc.scanPending = true) := by
  unfold State.calm State.awake
  decide

theorem witness_ReplyChecksInOrder :
    (∃ c ∈ ([⟨0, false, false⟩] : List CellChar), c.parityOk = false) ∧
      (¬ (∃ c ∈ ([⟨0, true, false⟩] : List CellChar), c.parityOk = false) ∧
        ∃ c ∈ ([⟨0, true, false⟩] : List CellChar), c.stopOk = false) ∧
      ([⟨0, true, true⟩] : List CellChar).length ≠ 6 ∧
      (([0x87, 0xB0, 0x13, 0x12, 0xD0, 0xD3] : List Byte).map fun b => (⟨b, true, true⟩ : CellChar)).map (·.data) =
        [0x87, 0xB0, 0x13, 0x12, 0xD0, 0xD3] ∧
      (66 * 1000000 ≤ { Site.default with replyWindow := 287 }.replyWindow * 230400 ∧
        { Site.default with replyWindow := 286 }.replyWindow * 230400 < 66 * 1000000) := by decide

/-- The part in a scan of nodes 1 and 2, polling node 1. -/
def polling : State := onLine .normal (some scan12) (some poll1) (some 0) (withSet twoCells running)

/-- The part in a scan whose last node is polled. -/
def lastPoll : State := onLine .normal (some { scan12 with todo := [1] }) (some poll1) (some 0) (withSet twoCells running)

/-- A reply of node 1 with sequence 11 and count 0. -/
def reply1 : List CellChar := [0x81, 0xB0, 0x00, 0x00, 0x00, 0xCE].map fun b => ⟨b, true, true⟩

/-- The same reply with its reference flag set. -/
def referenceReply1 : List CellChar := [0x81, 0xB1, 0x00, 0x00, 0x00, 0xCD].map fun b => ⟨b, true, true⟩

/-- The part with node 1 commanded REFERENCE by a CHECK_REFERENCE that holds the queue. -/
def checkingNode (s : State) : State :=
  heldBy (.checkReference 1) (auditing ⟨none, [], some ⟨1, 3, 0, 4⟩⟩
    { s with clc := s.clc.setNode 1 { s.clc.node 1 with mode := .reference } })

theorem witness_ReplyWindowSettlesNode :
    (polling.calm ∧ polling.clc.attempt = some poll1 ∧ polling.clc.scan = some scan12 ∧ 1 ≤ poll1.node ∧ poll1.number = 1 ∧
      judgeReplyIn polling.rnc.site 1 (polling.clc.node 1).lastSequence [] = .error .timeout) ∧
      (scan12.todo.tail = 2 :: [] ∧ 1 ≤ 2 ∧ 2 ≠ poll1.node ∧ judgeReplyIn polling.rnc.site 1 (some 11) reply1 = .error .stale ∧
        judgeReplyIn polling.rnc.site 1 none reply1 = .valid ⟨11, false, false, false, 0⟩) ∧
      (let s : State := { lastPoll with clc := lastPoll.clc.setNode 1 { lastPoll.clc.node 1 with lastSequence := some 11 } }
       s.calm ∧ s.clc.scan = some { scan12 with todo := [1] } ∧ s.clc.attempt = some poll1 ∧
         ({ scan12 with todo := [1] } : Scan).todo.tail = [] ∧
         judgeReplyIn s.rnc.site 1 (s.clc.node 1).lastSequence reply1 = .error .stale ∧ s.clc.scanPending = false ∧
         s.tli.directives.length ≤ 1) ∧
      (let s := onLine .normal (some scan12) (some { poll1 with number := 2 }) (some 0) (withSet twoCells running)
       s.calm ∧ s.clc.attempt = some { poll1 with number := 2 } ∧ s.clc.scan = some scan12 ∧
         judgeReplyIn s.rnc.site 1 (s.clc.node 1).lastSequence [] = .error .timeout) ∧
      ((checkingNode polling).calm ∧ (checkingNode polling).held 9 (.checkReference 1) ∧
        (checkingNode polling).clc.attempt = some poll1 ∧ (checkingNode polling).clc.scan = some scan12 ∧
        ((checkingNode polling).clc.node 1).mode = .reference ∧
        judgeReplyIn (checkingNode polling).rnc.site 1 ((checkingNode polling).clc.node 1).lastSequence reply1 =
          .valid ⟨11, false, false, false, 0⟩ ∧
        judgeReplyIn (checkingNode polling).rnc.site 1 ((checkingNode polling).clc.node 1).lastSequence referenceReply1 =
          .valid ⟨11, false, false, true, 0⟩) ∧
      ((checkingNode lastPoll).calm ∧ (checkingNode lastPoll).clc.scan = some { scan12 with todo := [1] } ∧
        (checkingNode lastPoll).clc.attempt = some poll1 ∧ ((checkingNode lastPoll).clc.node 1).mode = .reference ∧
        (checkingNode lastPoll).clc.scanPending = false ∧ (checkingNode lastPoll).tli.directives.length ≤ 1) := by
  unfold State.calm State.held State.awake
  decide

/-- The part in HALTING, held by HALT, at the NORMAL poll of node 1 with nodes still to be told. -/
def telling (todo : List Nat) : State :=
  let s := heldBy .halt (inState .halting)
  { s with clc := { s.clc with attempt := some { poll1 with command := .normal }, haltTodo := todo } }

/-- The same at HALT's polls, and at the end of a scan that shows no order. -/
theorem witness_ReplyWindowInHalting :
    ((telling []).held 9 .halt ∧ (telling []).clc.scan = none ∧ (telling []).clc.line = .normal ∧ (telling []).clc.haltTodo = [] ∧
      (telling []).clc.attempt = some { poll1 with command := .normal } ∧
      judgeReplyIn (telling []).rnc.site 1 ((telling []).clc.node 1).lastSequence [] = .error .timeout ∧
      judgeReplyIn (telling []).rnc.site 1 ((telling []).clc.node 1).lastSequence reply1 = .valid ⟨11, false, false, false, 0⟩) ∧
      ((telling [2]).held 9 .halt ∧ (telling [2]).clc.haltTodo = 2 :: []) ∧
      (scanOrderShows scan12 { running with clc := { running.clc with scan := none, attempt := none } } = false ∧
        running.clc.scanPending = false ∧ running.tli.mirror = false) ∧
      (let s : State := { busyLine running with tli := { (busyLine running).tli with mirror := true } }
       scanOrderShows scan12 { s with clc := { s.clc with scan := none, attempt := none } } = false ∧ s.tli.mirror = true) := by
  unfold State.held State.awake
  decide

/-- The part in RUN with node 16 SUSPECT after missing scans. -/
def suspect (missed : Nat) : State :=
  { running with clc := running.clc.setNode 16 { running.clc.node 16 with state := .suspect, missed := missed } }

/-- The slots of two sampled nodes, and of one that is missing. -/
def bothSampled : List (Nat × Slot) := [(1, .sample 100 false), (2, .sample 200 false)]

/-- A deck in FAULT. -/
def deckFaulted : Deck := { deck0 with faulted := true, state := .fault, hold := 5 }

/-- The part in RUN with node 16 in a state. -/
def nodeIn (state : NodeState) : State :=
  { running with clc := running.clc.setNode 16 { running.clc.node 16 with state := state, missed := 1 } }

theorem witness_LimitsLoseNodesAndFaultDecks :
    (((nodeIn .searching).clc.node 16).state = .searching ∧ ((nodeIn .live).clc.node 16).state = .live ∧
      ((nodeIn .lost).clc.node 16).state = .lost ∧ ((nodeIn .lost).clc.node 16).state ≠ .live ∧
      ((nodeIn .searching).clc.node 16).missed + 1 < (nodeIn .searching).rnc.site.lostLimit ∧
      ((suspect 7).clc.node 16).state = .suspect ∧ (suspect 7).rnc.site.lostLimit ≤ ((suspect 7).clc.node 16).missed + 1 ∧
      Slot.withheld = .withheld ∧ (∃ count flag, Slot.sample 100 false = .sample count flag) ∧
      ∀ slot ∈ [Slot.missing .timeout, .notPolled], slot ≠ .withheld ∧ ∀ count flag, slot ≠ .sample count flag) ∧
    ((suspect 7).calm ∧ (suspect 7).rnc.runState = .run ∧ ((suspect 7).clc.node 16).state = .suspect ∧
      (suspect 7).rnc.site.lostLimit ≤ ((suspect 7).clc.node 16).missed + 1) ∧
      ((suspect 6).calm ∧ ((suspect 6).clc.node 16).missed + 1 < (suspect 6).rnc.site.lostLimit) ∧
      (let s := withDeck { deck0 with hold := 4 } running
       s.calm ∧ s.wge.deck 0 = some { deck0 with hold := 4 } ∧ s.rnc.site.holdLimit ≤ 4) ∧
      (let s := withDeck { deck0 with hold := 3 } running
       s.calm ∧ s.wge.deck 0 = some { deck0 with hold := 3 } ∧ 3 < s.rnc.site.holdLimit) ∧
      ((deckSamples bothSampled [1, 2] = some [⟨1, 100, false⟩, ⟨2, 200, false⟩]) ∧
        deckSamples [(1, .sample 100 false), (2, .missing .timeout)] [1, 2] = none) ∧
      (deck0.faulted = false ∧ deck0.hold < 4 ∧ deckFaulted.faulted = true ∧ 4 ≤ { deck0 with hold := 4 }.hold) ∧
      (let s := withDeck deckFaulted (withSet twoCells running)
       s.wge.deck 0 = some deckFaulted ∧ maskNodes (s.setInUse.deck 0).mask = [1, 2]) := by
  refine ⟨⟨by decide, by decide, by decide, by decide, by decide, by decide, by decide, rfl, ⟨_, _, rfl⟩, by simp⟩, ?_⟩
  unfold State.calm State.awake
  decide

theorem witness_LineBreaksAndReturns :
    ((onLine .broken none none none running).calm ∧ (onLine .broken none none none running).clc.lineTest = false) ∧
      (running.calm ∧ running.clc.line = .normal ∧ running.clc.lineTest = false ∧ running.clc.attempt = none) ∧
      ((onLine .normal none (some poll1) none (inState .halting)).calm ∧
        (onLine .normal none (some poll1) none (inState .halting)).clc.scan = none) ∧
      (polling.clc.line = .normal ∧ polling.clc.lineTest = false ∧ polling.clc.attempt = some poll1 ∧
        polling.clc.scan = some scan12 ∧ 1 ≤ poll1.node ∧ poll1.node ≤ polling.clc.nodes.length) ∧
      (polling.calm ∧ polling.tli.directives.length ≤ 1) ∧
      ((telling [2]).calm ∧ (telling [2]).held 9 .halt ∧ (telling [2]).clc.line = .normal ∧ (telling [2]).clc.lineTest = false ∧
        (telling [2]).clc.attempt = some { poll1 with command := .normal } ∧ (telling [2]).clc.scan = none) ∧
      (testing.calm ∧ testing.held 9 .lineTest ∧ testing.clc.lineTest = true ∧ testing.clc.line = .normal) ∧
      (let s : State := { testing with clc := { testing.clc with line := .broken } }
       s.calm ∧ s.held 9 .lineTest ∧ s.clc.lineTest = true ∧ s.clc.line = .broken) ∧
      (onLine .broken none none none running).clc.line = .broken := by
  unfold State.calm State.held State.awake
  decide

theorem witness_ZeroDeckByTable :
    (State.reset.ready ∧ 4 ≤ (4 : Byte).toNat ∧ (4 : Byte) ≠ 0xFF ∧ (3 : Byte).toNat < 4) ∧
      (running.ready ∧ running.wge.deck 3 = none) ∧
      (let s := withTruck (truck .arriving) (withDeck deck0 running)
       s.ready ∧ s.rnc.runState = .run ∧ s.wge.deck 0 = some deck0 ∧ s.psu.passage ≠ none) ∧
      (let s := withDeck { deck0 with stable := false } running
       s.ready ∧ s.wge.deck 0 = some { deck0 with stable := false } ∧ s.psu.passage = none) ∧
      (let s := withDeck { deck0 with value := some 1200001 } running
       s.ready ∧ s.wge.deck 0 = some { deck0 with value := some 1200001 } ∧
         s.setInUse.maxLoad * 20 < (0 + 1200001 - 0 : Int).natAbs) ∧
      (let s := withDeck { deck0 with value := some (-1200000) } running
       s.ready ∧ s.wge.deck 0 = some { deck0 with value := some (-1200000) } ∧
         (0 + (-1200000) - 0 : Int).natAbs ≤ s.setInUse.maxLoad * 20) := by
  unfold State.ready State.awake
  decide

theorem witness_ZeroAllDecksOrNone :
    (State.reset.ready ∧ ∀ i, i < 4 → State.reset.wge.deck i = none) ∧
      (let s : State := { State.reset with wge := { State.reset.wge with decks := [none, none, none, some deck0] } }
       s.ready ∧ s.rnc.runState ≠ .run ∧ s.wge.deck 3 ≠ none ∧ ∀ j, j < 3 → s.wge.deck j = none) ∧
      (let s := withTruck (truck .arriving) (withDeck deck0 running)
       s.ready ∧ s.rnc.runState = .run ∧ s.psu.passage ≠ none ∧ s.wge.deck 0 ≠ none) ∧
      (let s : State := { running with wge := { running.wge with decks := [none, none, none, some { deck0 with stable := false }] } }
       s.ready ∧ s.wge.deck 3 ≠ none ∧ zeroFlaw s 3 = some .unstable ∧ ∀ j, j < 3 → s.wge.deck j = none) ∧
      (let s := withDeck deck0 running
       s.ready ∧ s.wge.deck 0 ≠ none ∧ ∀ i, i < 4 → s.wge.deck i ≠ none → zeroFlaw s i = none) := by
  unfold State.ready State.awake
  decide

theorem witness_StreamSetAndOffered :
    (State.reset.ready ∧ offOrOn 0 = none ∧ offOrOn 2 = some true) ∧
      (let s : State := { busyLine (withRecord record0 running) with wge := { decks := [], latest := some record0, streamCount := 4 } }
       s.calm ∧ s.rnc.runState = .run ∧ s.wge.latest = some record0 ∧ s.tli.interval ≠ 0 ∧
         s.tli.interval ≤ s.wge.streamCount + 1 ∧ s.tli.sending = some (.event 0 .lineBreak)) ∧
      (State.reset.calm ∧ State.reset.rnc.runState = .halted ∧ (inState .halting).calm) ∧
      (let s : State := { running with wge := { decks := [], latest := some record0, streamCount := 3 } }
       s.calm ∧ s.wge.streamCount + 1 < s.tli.interval) ∧
      (running.axm.checking = false ∧ running.psu.passage = none ∧ running.wge.streamCount + 1 < running.tli.interval) ∧
      (let s : State := { busyLine running with wge := { decks := [], latest := none, streamCount := 4 } }
       s.axm.checking = false ∧ s.psu.passage = none ∧ s.tli.interval ≠ 0 ∧ s.tli.interval ≤ s.wge.streamCount + 1 ∧
         s.tli.sending = some (.event 0 .lineBreak)) ∧
      (let s := withDeck deck0 (withSet twoCells running)
       s.wge.deck 0 = some deck0 ∧
         deckSamples bothSampled (maskNodes (s.setInUse.deck 0).mask) = some [⟨1, 100, false⟩, ⟨2, 200, false⟩] ∧
         deckSamples [] (maskNodes (s.setInUse.deck 0).mask) = none) := by
  unfold State.ready State.calm State.awake
  decide

/-- The deck of the worked corrections with Max 60,000 kg: its zero, F, and its flag, one handoff before ZT. -/
def driven (zero f : Int) (flag : Bool) : Deck :=
  { deck0 with zero := zero, value := some f, trackRun := 49, zeroLimit := flag }

theorem witness_ZeroTrackingCorrects :
    (let s := withDeck (driven 1190000 10000 false) running
     s.calm ∧ s.psu.passage = none ∧ s.vfu.session = none ∧ s.clu.staged = none ∧ s.rnc.runState = .run ∧
       s.wge.deck 0 = some (driven 1190000 10000 false) ∧ (10000 : Int).natAbs ≤ s.committed.division * 500 ∧
       s.committed.zeroTrackWindow ≤ 49 + 1 ∧ (1190000 + 10000 - 0 : Int).natAbs ≤ s.committed.maxLoad * 20) ∧
      (let s := verified (withDeck (driven 1190001 10000 false) running)
       s.calm ∧ s.wge.deck 0 = some (driven 1190001 10000 false) ∧
         s.committed.maxLoad * 20 < (1190001 + 10000 - 0 : Int).natAbs ∧ s.reasonSet = []) ∧
      (let s : State := { withDeck (driven 1190001 10000 false) running with vfu := { session := none, zeroLimitPending := true } }
       s.calm ∧ s.psu.passage = none ∧ .zeroLimit ∈ s.reasonSet) ∧
      (let s := withDeck (driven (-1200000) (-1) true) running
       s.calm ∧ s.wge.deck 0 = some (driven (-1200000) (-1) true) ∧
         s.committed.maxLoad * 20 < (-1200000 + (-1) - 0 : Int).natAbs) ∧
      (running.psu.passage = none ∧ running.rnc.runState = .run ∧ running.vfu.session = none ∧ running.clu.staged = none ∧
        { deck0 with state := .noZero, value := some 6000000 }.stable = true ∧
        (6000000 : Int).natAbs ≤ running.setInUse.maxLoad * 100 ∧ running.setInUse.maxLoad * 100 < (6000001 : Int).natAbs) ∧
      (deck0.state = .valid ∧ deck0.stable = true ∧ (10000 : Int).natAbs ≤ running.setInUse.division * 500 ∧
        running.setInUse.division * 500 < (10001 : Int).natAbs ∧ 48 + 1 < running.setInUse.zeroTrackWindow) := by
  unfold State.calm State.awake
  decide

theorem witness_InputsAreFiltered :
    (State.reset.calm ∧ (State.reset.ylu.filter .stripA).raw = false ∧ (State.reset.ylu.filter .stripA).accepted = none) ∧
      (let s := withInput .entryLoop ⟨false, some (!true), none, none, none, 0⟩ State.reset
       s.calm ∧ (s.ylu.filter .entryLoop).raw ≠ true ∧ (s.ylu.filter .entryLoop).accepted = some (!true)) ∧
      (let s := withInput .entryLoop (ripening true) State.reset
       s.calm ∧ (s.ylu.filter .entryLoop).raw ≠ false ∧ (s.ylu.filter .entryLoop).accepted = some false ∧
         (s.ylu.filter .entryLoop).candidate = some ⟨true, 0⟩) ∧
      ((State.reset.ylu.filter .stripA).settling = some ⟨false, 0⟩ ∧
        State.reset.rnc.site.filterTime .stripA ≤ ((1000 : Stamp) - 0).toNat) ∧
      (ripening true).settling = none := by
  unfold State.calm State.awake
  decide

theorem witness_FilterAcceptsAndHandsOn :
    (let s := withInput .entryLoop (ripening true) running
     s.calm ∧ (s.ylu.filter .entryLoop).candidate = some ⟨true, 0⟩ ∧
       ¬ s.rnc.site.filterTime .entryLoop ≤ ((99999 : Stamp) - 0).toNat ∧
       s.rnc.site.filterTime .entryLoop ≤ ((100000 : Stamp) - 0).toNat ∧ s.psu.passage = none) ∧
      (let s := withInput .stripB (ripening false) running
       s.calm ∧ (s.ylu.filter .stripB).candidate = some ⟨false, 0⟩) ∧
      (let s := withInput .calSwitch (ripening false) running
       s.calm ∧ (s.ylu.filter .calSwitch).candidate = some ⟨false, 0⟩ ∧ s.clu.staged = none) ∧
      (let s := withInput .stripA (ripening true) (pairing none running)
       s.calm ∧ (s.ylu.filter .stripA).candidate = some ⟨true, 0⟩ ∧ s.axm.checking = true ∧ s.axm.pairing = none) ∧
      (let s := withInput .stripB ⟨true, some false, none, some ⟨true, 2000000⟩, none, 0⟩ (pairing (some ⟨.forward, 0⟩) running)
       s.calm ∧ s.axm.pairing = some ⟨.forward, 0⟩ ∧ (2000000 : Stamp) ≠ 0 ∧
         ((2000000 : Stamp) - 0).toNat ≤ s.rnc.site.pairingWindow * 1000 ∧ s.axm.queue.length < 4) ∧
      (let s := withInput .calSwitch (ripening false) (staging twoCells running)
       s.calm ∧ s.clu.staged = some twoCells ∧ s.stc.queue = []) ∧
      (let s := withInput .calSwitch (ripening false) (heldBy .commitCal (writing [.commit twoCells []] (staging twoCells running)))
       s.calm ∧ s.held 9 .commitCal ∧ (s.ylu.filter .calSwitch).candidate = some ⟨false, 0⟩ ∧ s.clu.staged = some twoCells ∧
         ∃ u ∈ s.stc.queue, u.producer = .clu) ∧
      ((withInput .entryLoop (ripening true) running).rnc.runState = .run) := by
  unfold State.calm State.held State.awake
  decide

/-- A press of a strip since a time in a part that checks axles with a pairing, pending axles and records. -/
def pressed (i : YardInput) (since : Stamp) (p : Option Pairing) (queue : List PendingAxle) (list : List AxleRecord) : State :=
  withInput i ⟨true, some false, none, some ⟨true, since⟩, none, 0⟩
    { running with axm := { Axm.cleared with checking := true, pairing := p, queue := queue, list := list } }

/-- A pending axle that crossed at 0. -/
def pendingAxle : PendingAxle := ⟨some 0, none, false, false⟩

/-- A repeated A behind three pending axles, a reverse crossing at the window's edge with and without a record, B's first press, a
repeated B, and both strips at one time. -/
theorem witness_FilterAcceptsStrips :
    (let s := pressed .stripA 3000000 (some ⟨.forward, 0⟩) (List.replicate 3 pendingAxle) []
     s.calm ∧ (s.ylu.filter .stripA).candidate = some ⟨true, 3000000⟩ ∧ s.axm.checking = true ∧
       s.axm.pairing = some ⟨.forward, 0⟩ ∧ s.axm.queue.length < 4 ∧
       s.rnc.site.filterTime .stripA ≤ ((3001000 : Stamp) - 3000000).toNat) ∧
      (let s := pressed .stripA 2000000 (some ⟨.reverse, 0⟩) [] []
       s.calm ∧ s.axm.pairing = some ⟨.reverse, 0⟩ ∧ (2000000 : Stamp) ≠ 0 ∧
         ((2000000 : Stamp) - 0).toNat ≤ s.rnc.site.pairingWindow * 1000 ∧ s.axm.list = []) ∧
      ((pressed .stripA 2000000 (some ⟨.reverse, 0⟩) [] [axle 1 0 6480]).axm.list = [] ++ [axle 1 0 6480]) ∧
      ((pressed .stripB 0 none [] []).calm ∧ (pressed .stripB 0 none [] []).axm.pairing = none) ∧
      ((pressed .stripB 5 (some ⟨.reverse, 0⟩) [] []).calm ∧
        (pressed .stripB 5 (some ⟨.reverse, 0⟩) [] []).axm.pairing = some ⟨.reverse, 0⟩) ∧
      ((pressed .stripB 0 (some ⟨.forward, 0⟩) [] []).calm ∧
        ((pressed .stripB 0 (some ⟨.forward, 0⟩) [] []).ylu.filter .stripB).candidate = some ⟨true, 0⟩ ∧
        (pressed .stripB 0 (some ⟨.forward, 0⟩) [] []).axm.queue.length < 4) := by
  unfold State.calm State.awake
  decide

/-- A filter with an accepted level and no candidate. -/
def settled (level : Bool) : InputFilter := ⟨level, some level, none, none, none, 0⟩

/-- A loop about to be accepted at a level, the other loop at a level, a passage on the path and a weight on the bridge. -/
def looped (i : YardInput) (level other : Bool) (p : Passage) (weight : Int) : State :=
  let s := withRecord { record0 with weight := weight } (withTruck p running)
  withInput i (ripening level) (withInput (if i = .entryLoop then .exitLoop else .entryLoop) (settled other) s)

/-- The loop clauses: on the bridge with 20d or an axle, backed out below it, run through, issuing, done with and without holds, left
without and with a vehicle behind, an intruder that leaves, and the end of a clearing. -/
theorem witness_FilterAcceptsLoops :
    (let s := looped .entryLoop false false (truck .arriving) 400
     s.calm ∧ (s.ylu.filter .entryLoop).candidate = some ⟨false, 0⟩ ∧ s.psu.passage = some (truck .arriving) ∧
       s.ylu.exitLoop.accepted = some false ∧ 20 * (s.setInUse.division : Int) ≤ s.latestWeight) ∧
      (let s := looped .entryLoop false false (truck .arriving) 380
       s.axm.list = [] ∧ ¬ 20 * (s.setInUse.division : Int) ≤ s.latestWeight) ∧
      (let s := looped .exitLoop true false (truck .captured) 400
       s.calm ∧ (s.ylu.filter .exitLoop).candidate = some ⟨true, 0⟩ ∧ s.psu.passage = some (truck .captured) ∧
         (truck .captured).intruder = false) ∧
      ((looped .exitLoop true false (truck .issuing) 400).psu.passage = some (truck .issuing)) ∧
      ((looped .exitLoop true false (truck .done) 400).psu.passage = some (truck .done) ∧ (truck .done).holds = [] ∧
        { truck .done with holds := [.overload] }.holds ≠ []) ∧
      (let s := looped .exitLoop false false (truck .leaving) 0
       s.calm ∧ s.psu.passage = some (truck .leaving) ∧ s.ylu.entryLoop.accepted ≠ some true) ∧
      (let s := looped .exitLoop false true (truck .leaving) 0
       s.calm ∧ s.ylu.entryLoop.accepted = some true ∧ s.rnc.runState = .run) ∧
      (let s := looped .exitLoop false true { truck .onBridge with intruder := true } 0
       s.calm ∧ s.psu.passage = some { truck .onBridge with intruder := true } ∧ s.ylu.entryLoop.accepted ≠ some false) ∧
      (let s := looped .exitLoop false false { truck .onBridge with intruder := true } 380
       s.calm ∧ s.ylu.entryLoop.accepted = some false ∧ ¬ 20 * (s.setInUse.division : Int) ≤ s.latestWeight) ∧
      (let s := looped .entryLoop false false (truck .clearing) 380
       s.calm ∧ s.psu.passage = some (truck .clearing) ∧ s.ylu.exitLoop.accepted = some false) := by
  unfold State.calm State.awake
  decide

/-- The part with a passage whose capture timer has run since 0. -/
def timed (st : PassageState) : State :=
  { withRecord record0 running with psu := { passage := some (truck st), counter := 7, captureTimer := some 0 } }

theorem witness_PassageTimersRunOut :
    ((timed .onBridge).calm ∧ (timed .onBridge).psu.captureTimer = some 0 ∧
      (timed .onBridge).rnc.site.captureTimeout * 1000000 ≤ ((60000000 : Stamp) - 0).toNat ∧
      ((59999999 : Stamp) - 0).toNat < (timed .onBridge).rnc.site.captureTimeout * 1000000 ∧
      (timed .onBridge).wge.latest = some record0) ∧
      ((timed .done).calm ∧ (truck .done).state ≠ .onBridge) ∧
      (let s := pairing (some ⟨.forward, 0⟩) (withTruck (truck .arriving) running)
       s.calm ∧ s.axm.checking = true ∧ s.psu.passage = some (truck .arriving) ∧ s.axm.queue.length < 4 ∧
         s.rnc.site.pairingWindow * 1000 + s.rnc.site.stripFilter * 100 + 1 ≤ ((2001001 : Stamp) - 0).toNat ∧
         ((2001000 : Stamp) - 0).toNat < s.rnc.site.pairingWindow * 1000 + s.rnc.site.stripFilter * 100 + 1) ∧
      (pairing (some ⟨.reverse, 0⟩) (withTruck (truck .arriving) running)).calm := by
  unfold State.calm State.awake
  decide

/-- The part with both loops accepted clear. -/
def clearLoops (s : State) : State :=
  withInput .entryLoop ⟨false, some false, none, none, none, 0⟩ (withInput .exitLoop ⟨false, some false, none, none, none, 0⟩ s)

/-- A weight record of a stable, valid bridge. -/
def heavyRecord (weight : Int) : WeightRecord := { record0 with weight := weight }

/-- The part in RUN with a passage, its loops accepted clear, and a weight record. -/
def weighing (p : Passage) (weight : Int) : State := withRecord (heavyRecord weight) (clearLoops (withTruck p running))

/-- A passage on the bridge of an identity. -/
def boundTruck : Passage := { truck .onBridge with identity := some tag1 }

/-- A passage vanishes, a clearing ends, a record moves nothing, and a capture is made, with a request not made, accepted or refused,
and with axle checking on. -/
theorem witness_RecordMovesPassage :
    (let s := weighing (truck .captured) 380
     s.psu.passage = some (truck .captured) ∧ s.wge.latest = some (heavyRecord 380) ∧ (heavyRecord 380).stable = true ∧
       (heavyRecord 380).weight < 20 * (s.setInUse.division : Int) ∧ s.ylu.entryLoop.accepted = some false ∧
       s.ylu.exitLoop.accepted = some false) ∧
      ((weighing (truck .clearing) 380).psu.passage = some (truck .clearing)) ∧
      ((weighing { truck .onBridge with intruder := true } 400).psu.passage = some { truck .onBridge with intruder := true } ∧
        ¬ (400 : Int) < 20 * (running.setInUse.division : Int) ∧ (truck .issuing).state ∈ [.arriving, .issuing, .done, .leaving]) ∧
      (let s := weighing (truck .onBridge) 400
       s.rnc.runState = .run ∧ (heavyRecord 400).valid = true ∧ (heavyRecord 400).test = false ∧
         (heavyRecord 400).range = .inRange ∧ (truck .onBridge).intruder = false ∧ (truck .onBridge).axles = none ∧
         s.axm.checking = false ∧ s.axm.final = false) ∧
      (let q : Passage := { boundTruck with state := .captured, capture := some capture1 }
       requestOutcome (withTruck q (verified running)) q = .accepted ∧
         requestOutcome (withTruck q running) q = .refused .notVerified ∧
         requestOutcome (withTruck q State.reset) q = .notMade) ∧
      (let s : State := { weighing (truck .onBridge) 400 with axm := { Axm.cleared with checking := true } }
       s.axm.checking = true ∧ s.axm.pairing = none ∧ s.axm.queue = [] ∧ (truck .onBridge).identity = none) := by
  decide

/-- The part checking axles with a pad state, a dwell and pending axles. -/
def onPad (pad : PadState) (dwell : Option Dwell) (ignore : Bool) (queue : List PendingAxle) : State :=
  { running with axm := { Axm.cleared with checking := true, pad := pad, dwell := dwell, padIgnore := ignore, queue := queue } }

/-- A dwell of n results. -/
def dwell (n : Nat) (detached : Bool) : Dwell := ⟨n, 1000000, [0], [0], detached⟩

/-- The pad results at 200 kg and 100 kg of the default settings, and the resting axle at capture. -/
theorem witness_PadResults :
    ((onPad .unknown none false []).axm.checking = true ∧ (onPad .unknown none false []).axm.pad = .unknown) ∧
      ((running.rnc.site.padOn : Int) * 1000 < 200001 ∧ ¬ (running.rnc.site.padOn : Int) * 1000 < 200000) ∧
      ((onPad .inactive none true []).axm.padIgnore = true ∧ (onPad .inactive none false []).axm.queue = [] ∧
        (onPad .inactive none false [pendingAxle]).axm.queue = pendingAxle :: []) ∧
      ((running.rnc.site.padOn : Int) * 1000 ≤ (running.rnc.site.padOn : Int) * 1000 ∧
        (running.rnc.site.padOn : Int) * 1000 < (running.rnc.site.padOn : Int) * 1000 + 1) ∧
      ((onPad .active (some (dwell 65534 false)) false []).axm.dwell = some (dwell 65534 false) ∧
        (dwell 65534 false).count < 65535 ∧ 65535 ≤ (dwell 65535 false).count ∧ (dwell 1 true).detached = true ∧
        (running.rnc.site.padOff : Int) * 1000 - 1 < (running.rnc.site.padOff : Int) * 1000) ∧
      (let s := onPad .active (some (dwell 12 false)) false [{ pendingAxle with onPad := true }]
       s.axm.queue = { pendingAxle with onPad := true } :: [] ∧ s.axm.list.length < 12 ∧
         running.rnc.site.minDwell ≤ 12 - 2 * running.rnc.site.trim ∧
         ¬ running.rnc.site.minDwell ≤ 11 - 2 * running.rnc.site.trim ∧
         s.axm.pairing = none ∧ { pendingAxle with onPad := true }.onPad = true ∧
         ({ pendingAxle with padOnly := true } : PendingAxle).padOnly = true) := by
  decide

/-- A vehicle of tag 1. -/
def vehicle1 : Vehicle := ⟨1, 1, some 14240, true, false⟩

/-- The part with its calibration area damaged. -/
def damagedCal : State := { State.reset with stc := { State.reset.stc with damaged := ⟨true, false, false, false⟩ } }

theorem witness_PutVehicleByTable :
    (State.reset.ready ∧ (17 : Byte).toNat = 17 ∧ firstOrSecond 0 = none ∧ firstOrSecond 1 = some true ∧
      firstOrSecond 2 = some false ∧ 1 ≤ (16 : Byte).toNat ∧ (16 : Byte).toNat ≤ 16) ∧
      (∀ x ∈ State.reset.vtb.vehicles, x.tag ≠ 1) ∧ State.reset.vtb.vehicles.length < 256 ∧
      ((withVehicles [vehicle1] State.reset).ready ∧ ∃ x ∈ (withVehicles [vehicle1] State.reset).vtb.vehicles, x.tag = 1) ∧
      ((withVehicles (List.replicate 256 vehicle1) State.reset).ready ∧
        (∀ x ∈ (withVehicles (List.replicate 256 vehicle1) State.reset).vtb.vehicles, x.tag ≠ 2) ∧
        256 ≤ (withVehicles (List.replicate 256 vehicle1) State.reset).vtb.vehicles.length) ∧
      (damagedCal.ready ∧ damagedCal.stc.damaged.calibration = true) ∧
      (State.reset.stc.damaged.calibration = false ∧ (200000 : BitVec 32).toNat ≤ 200000 ∧
        (199999 : BitVec 32).toNat % State.reset.committed.division ≠ 0 ∧
        (200000 : BitVec 32).toNat % State.reset.committed.division = 0) := by
  unfold State.ready State.awake
  decide +kernel

theorem witness_VehiclesAreDropped :
    State.reset.ready ∧ (∀ x ∈ State.reset.vtb.vehicles, x.tag ≠ 1) ∧ (withVehicles [vehicle1] State.reset).ready ∧
      ∃ x ∈ (withVehicles [vehicle1] State.reset).vtb.vehicles, x.tag = 1 := by
  unfold State.ready State.awake
  decide

theorem witness_VehicleIsRead :
    (State.reset.ready ∧ findVehicle 1 State.reset.vtb.vehicles = none) ∧
      (withVehicles [vehicle1] State.reset).ready ∧
      findVehicle 1 (withVehicles [vehicle1] State.reset).vtb.vehicles = some vehicle1 := by
  unfold State.ready State.awake
  decide

/-- Class fields at the ends of their ranges. -/
def classEdge : ClassFields := ⟨12, 12, 1, 1, 200000, 200000, 200000⟩

theorem witness_ClassesArePutAndRead :
    (State.reset.ready ∧ (0 : Byte).toNat = 0 ∧ 16 < (17 : Byte).toNat ∧ (1 ≤ (16 : Byte).toNat ∧ (16 : Byte).toNat ≤ 16) ∧
      (1 ≤ classEdge.minAxles.toNat ∧ classEdge.minAxles.toNat ≤ classEdge.maxAxles.toNat ∧ classEdge.maxAxles.toNat ≤ 12) ∧
      (2 : Byte) ≠ 0 ∧ (2 : Byte) ≠ 1) ∧
      ∀ w ∈ [classEdge.single, classEdge.tandem, classEdge.triple, classEdge.quad, classEdge.gross],
        1 ≤ w.toNat ∧ w.toNat ≤ 200000 := by
  refine ⟨?_, by simp [classEdge]⟩
  unfold State.ready State.awake
  decide

theorem witness_HoldMaskIsPutAndRead : State.reset.ready ∧ 63 < (64 : Byte).toNat ∧ (63 : Byte).toNat ≤ 63 ∧ 5 < 6 := by
  unfold State.ready State.awake
  decide

theorem witness_IdentifyBindsThePassage :
    (State.reset.ready ∧ kindOf 3 = none ∧ kindOf 1 = some .receival ∧ firstOrSecond 2 = some false ∧ State.reset.psu.passage = none) ∧
      (let s := withTruck { truck .arriving with identity := some tag1 } running
       s.ready ∧ s.psu.passage = some { truck .arriving with identity := some tag1 }) ∧
      (let s := withTruck (truck .issuing) running
       s.ready ∧ s.psu.passage = some (truck .issuing) ∧ (truck .issuing).state ∉ [.arriving, .onBridge, .captured]) ∧
      (let s := withTruck (truck .onBridge) running
       s.ready ∧ (truck .onBridge).identity = none ∧ (truck .onBridge).capture = none ∧ (truck .onBridge).axles = none) ∧
      ((withTruck (truck .captured) running).ready ∧ (truck .captured).state ∈ [.arriving, .onBridge, .captured]) ∧
      (let s : State := { running with axm := { Axm.cleared with final := true } }
       (weighed tag1).identity = some tag1 ∧ (weighed tag1).capture = some capture1 ∧ s.axm.final = true ∧
         running.axm.final = false) ∧
      ((numberGroups 2500 0 [axle 1 0 6480, axle 2 2500 8120, axle 3 2499 8300]).map (·.group) = [some 1, some 2, some 2]) ∧
      (1 ≤ [axle 1 0 6480].length ∧ List.length [axle 1 0 1, axle 2 0 1, axle 3 0 1, axle 4 0 1] ≤ 4 ∧
        (∀ r ∈ [axle 1 0 6480], r.flags.fast = false ∧ r.load ≠ none) ∧
        4 < List.length [axle 1 0 1, axle 2 0 1, axle 3 0 1, axle 4 0 1, axle 5 0 1] ∧
        ({ axle 1 0 1 with load := none } : AxleRecord).load = none) := by
  unfold State.ready State.awake
  decide

theorem witness_HoldIsReleased :
    (State.reset.ready ∧ 9 < (10 : Byte).toNat ∧ reasonOf 5 = some .unstable ∧ reasonOf 1 = some .unlisted ∧
      reasonOf 4 = some .overload ∧ State.reset.psu.passage = none) ∧
      (let s := withTruck { truck .done with holds := [.overload] } running
       s.ready ∧ s.psu.passage = some { truck .done with holds := [.overload] } ∧ (truck .done).number = 7 ∧
         (8 : BitVec 16) ≠ 7 ∧ .unlisted ∉ [HoldReason.overload] ∧ .overload ∈ [HoldReason.overload]) ∧
      (let s := withTruck { truck .captured with holds := [.unlisted] } running
       s.ready ∧ s.psu.passage = some { truck .captured with holds := [.unlisted] }) := by
  unfold State.ready State.awake
  decide

theorem witness_PassageIsAbandoned :
    State.reset.ready ∧
      (let s := withTruck (truck .issuing) running
       s.ready ∧ s.psu.passage = some (truck .issuing) ∧ (truck .issuing).state = .issuing ∧ (8 : BitVec 16) ≠ 7) ∧
      ((withTruck (truck .leaving) running).ready ∧ (truck .leaving).state ∈ [.done, .leaving, .clearing]) ∧
      (let s := withTruck (truck .captured) running
       s.ready ∧ (truck .captured).state ∈ [.arriving, .onBridge, .captured] ∧ s.ylu.entryLoop.accepted ≠ some false) ∧
      (let s := clearLoops (withTruck (truck .arriving) running)
       s.ready ∧ s.ylu.entryLoop.accepted = some false ∧ s.ylu.exitLoop.accepted = some false ∧
         s.latestWeight < 20 * (s.setInUse.division : Int)) := by
  unfold State.ready State.awake
  decide

theorem witness_ReleaseAndPurgeAreHanded :
    ((faulted State.reset).ready ∧ (faulted State.reset).stc.fault = true) ∧
      (State.reset.ready ∧ State.reset.stc.fault = false ∧ ∀ x ∈ State.reset.stc.store.ticket.ring, x = none) ∧
      ((posted 1 State.reset).ready ∧ some ticket1 ∈ (posted 1 State.reset).stc.store.ticket.ring ∧ ticket1.number = 1) ∧
      (State.reset.stc.store.transaction.table = []) ∧
      (let s := withTruck { truck .arriving with identity := some tag1 } (withOpen running)
       s.ready ∧ (∃ e ∈ s.stc.store.transaction.table, e.tag = 1) ∧
         s.psu.passage = some { truck .arriving with identity := some tag1 } ∧ tag1.tag = 1) ∧
      ((withOpen running).ready ∧ (withOpen running).psu.passage = none) := by
  unfold State.ready State.awake
  decide

/-- The part with no usable ticket area. -/
def unusable : State := { State.reset with stc := { State.reset.stc with fault := true, damaged := ⟨false, false, true, false⟩ } }

theorem witness_TicketsAndTransactionsAreRead :
    (unusable.ready ∧ unusable.stc.damaged.ticket = true) ∧
      (State.reset.ready ∧ State.reset.stc.damaged.ticket = false ∧ State.reset.stc.damaged.transaction = false ∧
        State.reset.stc.store.ticket.next ≠ 0 ∧ ∀ x ∈ State.reset.stc.store.ticket.ring, x = none) ∧
      ((posted 1 State.reset).ready ∧ (posted 1 State.reset).stc.store.ticket.ring.getD 0 none = some ticket1) ∧
      ((withOpen State.reset).ready ∧ findOpen 1 (withOpen State.reset).stc.store.transaction.table = some open1 ∧
        ∀ e ∈ (withOpen State.reset).stc.store.transaction.table, e.tag ≠ 2) := by
  unfold State.ready State.awake
  decide

theorem witness_CalibrationIsEnteredAndLeft :
    (State.reset.ready ∧ State.reset.clu.staged = none) ∧
      ((staging twoCells running).ready ∧ (staging twoCells running).clu.staged = some twoCells) := by
  unfold State.ready State.awake
  decide

theorem witness_ParameterIsSet :
    State.reset.ready ∧ State.reset.clu.staged = none ∧
      ((staging CalSet.factory running).ready ∧ (staging CalSet.factory running).clu.staged = some CalSet.factory) ∧
      paramOf 0 0 = none ∧ paramOf 9 4 = none ∧ paramOf 12 16 = some (.cell .offset 16) ∧ paramOf 3 0 = some (.global .filterLength) ∧
      (ParamId.global .filterLength).inRange (1 : BitVec 32).toInt = true ∧
      (ParamId.global .filterLength).inRange (0 : BitVec 32).toInt = false ∧
      (CalSet.factory.decks.length = 4 ∧ CalSet.factory.cells.length = 16 ∧ .global .filterLength ∈ allParams) := by
  unfold State.ready State.awake
  decide

theorem witness_CalibrationIsRead :
    State.reset.ready ∧ (3 : Byte) ≠ 1 ∧ (3 : Byte) ≠ 2 ∧ paramOf 3 0 = some (.global .filterLength) ∧
      (staging twoCells running).ready ∧ (damagedCal.ready ∧ damagedCal.stc.damaged.calibration = true) ∧
      State.reset.stc.damaged.calibration = false := by
  unfold State.ready State.awake
  decide

/-- The part in calibration mode with the switch closed, the clock set and the first parameter staged at a value. -/
def committing (maxLoad : Nat) : State :=
  clockSet (switchClosed (staging { twoCells with maxLoad := maxLoad } (withSet twoCells running)))

/-- The same with a trail of which 48 entries are unaudited. -/
def trailFull : State :=
  { committing 80000 with stc := { (committing 80000).stc with store := { (committing 80000).stc.store with
      calibration := { (committing 80000).stc.store.calibration with newest := 48 } } } }

theorem witness_CommitIsJudgedAndHanded :
    ((staging twoCells running).ready ∧ (staging twoCells running).ylu.calSwitch.accepted ≠ some true) ∧
      (let s := switchClosed (staging twoCells running)
       s.ready ∧ s.ylu.calSwitch.accepted = some true ∧ s.cck.isSet = false) ∧
      ((withTruck (truck .arriving) (committing 80000)).ready ∧
        (withTruck (truck .arriving) (committing 80000)).psu.passage ≠ none) ∧
      ((committing 9999).ready ∧ commitFlaw { twoCells with maxLoad := 9999 } 0 0 1 = some .capacityRatio) ∧
      (trailFull.ready ∧ commitFlaw { twoCells with maxLoad := 80000 } 1 48 1 = none ∧ 48 < 1 + (48 - 0)) ∧
      ((committing 60000).ready ∧ changedParams { twoCells with maxLoad := 60000 } twoCells = []) ∧
      ((faulted (committing 80000)).ready ∧ (faulted (committing 80000)).stc.fault = true) ∧
      ((committing 80000).ready ∧ (committing 80000).stc.fault = false ∧
        (changedParams { twoCells with maxLoad := 80000 } twoCells).length = 1 ∧
        commitFlaw { twoCells with maxLoad := 80000 } (committing 80000).stc.store.calibration.count 0 1 = none) ∧
      (let c : CalSet := { twoCells with decks := [⟨0x0003, true, 0⟩, ⟨0x8002, true, 0⟩, ⟨0x8000, true, 0⟩, DeckCal.factory] }
       commitFlaw c 0 0 1 = some (.nodeInTwoDecks 2)) ∧
      (let c : CalSet := { twoCells with decks := [⟨0x00FF, true, 0⟩, ⟨0xFF00, true, 0⟩, DeckCal.factory, DeckCal.factory] }
       commitFlaw c 0 0 1 = none) ∧
      (let c : CalSet := { twoCells with decks := [DeckCal.factory, ⟨0x01FF, true, 0⟩, DeckCal.factory, DeckCal.factory] }
       commitFlaw c 0 0 1 = some (.deckSize 1)) := by
  unfold State.ready State.awake
  decide +kernel

theorem witness_AuditIsOpenedAndAborted :
    (State.reset.ready ∧ State.reset.vfu.session = none) ∧
      ((auditing fresh running).ready ∧ (auditing fresh running).vfu.session = some fresh) := by
  unfold State.ready State.awake
  decide

/-- An audit with a weight record, deck 0 having cells. -/
def readingPoint (session : Session) (r : WeightRecord) : State := withRecord r (auditing session (withSet twoCells running))

/-- A session whose point list is full. -/
def fullSession : Session := ⟨none, List.replicate 12 zeroPoint, none⟩

theorem witness_LoadPointIsCaptured :
    (State.reset.ready ∧ 4 ≤ (4 : Byte).toNat ∧ 200000 < (200001 : BitVec 32).toNat ∧ (200000 : BitVec 32).toNat ≤ 200000 ∧
      targetOf 0xFF = some .bridge ∧ targetOf 3 = some (.deck 3) ∧ State.reset.vfu.session = none) ∧
      ((auditing fresh running).ready ∧ ((auditing fresh running).committed.deck 3).mask = 0) ∧
      ((withTruck (truck .arriving) (auditing fresh running)).ready ∧
        (withTruck (truck .arriving) (auditing fresh running)).psu.passage ≠ none) ∧
      ((auditing fullSession running).ready ∧ 12 ≤ fullSession.points.length) ∧
      ((auditing fresh running).wge.latest = none) ∧
      ((readingPoint fresh { record0 with stable := false }).ready ∧ { record0 with stable := false }.stable = false) ∧
      ((readingPoint fresh record0).ready ∧ record0.stable = true ∧
        record0.decks.getD 0 none = some ⟨true, .valid, some 0, some 0, true, false, false⟩ ∧
        ((readingPoint fresh record0).committed.deck 0).mask ≠ 0) := by
  unfold State.ready State.awake
  decide

/-- A check of cell 2 after handoffs and samples. -/
def checking (handoffs samples : Nat) : Session := ⟨none, [], some ⟨2, samples, 0, handoffs⟩⟩

theorem witness_ReferenceIsChecked :
    (State.reset.ready ∧ 16 < (17 : Byte).toNat ∧ 1 ≤ (1 : Byte).toNat ∧ (16 : Byte).toNat ≤ 16) ∧
      ((auditing fresh running).ready ∧ (16 : Byte).toNat ∉ (auditing fresh running).committed.pollList) ∧
      ((withTruck (truck .arriving) (readingPoint fresh record0)).ready ∧
        (2 : Byte).toNat ∈ (withTruck (truck .arriving) (readingPoint fresh record0)).committed.pollList) ∧
      ((readingPoint fullSession record0).ready ∧ 12 ≤ fullSession.points.length) ∧
      ((readingPoint fresh record0).ready ∧ (readingPoint fresh record0).psu.passage = none ∧ fresh.points.length < 12) ∧
      (let s := heldBy (.checkReference 2) (auditing (checking 31 7) running)
       s.held 9 (.checkReference 2) ∧ s.vfu.session = some (checking 31 7) ∧
         (checking 31 7).check = some ⟨2, 7, 0, 31⟩) ∧
      (let s := heldBy (.checkReference 2) (auditing (checking 30 7) running)
       s.held 9 (.checkReference 2) ∧ 30 < 31) ∧
      8 ≤ (⟨2, 8, 0, 9⟩ : ReferenceCheck).samples := by
  unfold State.ready State.held State.awake
  decide

theorem witness_AuditIsClosed :
    State.reset.ready ∧ ((faulted (auditing fresh running)).ready ∧ (faulted (auditing fresh running)).stc.fault = true) ∧
      ((auditing fresh running).ready ∧ (auditing fresh running).cck.isSet = false) ∧
      ((posted 0 (clockSet (auditing fresh running))).ready ∧ (posted 0 (clockSet (auditing fresh running))).fillSlotPosted = true) ∧
      ((clockSet (auditing fresh running)).ready ∧ (clockSet (auditing fresh running)).fillSlotPosted = false) ∧
      ((auditSummary ⟨none, [zeroPoint, ⟨2, true, .load ⟨.bridge, 10000, 9990, -10, 100⟩⟩,
          ⟨3, true, .load ⟨.bridge, 40000, 40010, 10, 200⟩⟩], none⟩).worstError = some (-10)) := by
  unfold State.ready State.awake
  decide

/-- A passage in a state that waits with a reason. -/
def waitingTruck (r : HoldReason) : Passage := { truck .captured with holds := [r] }

/-- A passage whose ticket is at the STC and which has run through. -/
def ranThrough : Passage := { truck .issuing with runThrough := true }

/-- The part with 64 open transactions. -/
def openFull (s : State) : State :=
  { s with stc := { s.stc with store := { s.stc.store with
      transaction := { s.stc.store.transaction with
        table := open1 :: (List.range 63).map fun i => { open1 with tag := BitVec.ofNat 32 (i + 2) }, firstCount := 64 } } } }

theorem witness_UpdateCompletes :
    ((writing [.reason] running).powered = true ∧ (writing [.reason] running).stc.queue = .reason :: []) ∧
      (running.calm ∧ running.stc.queue = [] ∧ running.rnc.runState ≠ .halting) ∧
      (let s := heldBy (.releaseTicket 1) (writing [.release 1] (posted 1 running))
       s.held 9 (.releaseTicket 1) ∧ s.rnc.runState ≠ .halting ∧ s.stc.queue = [.release 1] ∧
         s.stc.store.ticket.slotOf 1 = some 0 ∧ 0 ≠ s.stc.store.ticket.fill) ∧
      (let s := heldBy (.purgeTransaction 1) (writing [.purge 1] (withOpen running))
       s.held 9 (.purgeTransaction 1) ∧ s.stc.queue = [.purge 1] ∧
         findOpen 1 s.stc.store.transaction.table = some open1 ∧ s.stc.store.transaction.table.length ≠ 64) ∧
      (let s := writing [.ticket ticket1 (.insert open1) (some 7)] running
       s.calm ∧ s.stc.queue = [.ticket ticket1 (.insert open1) (some 7)] ∧ s.stc.store.ticket.next + 1#32 ≠ 0 ∧
         s.psu.passage = none) ∧
      (let s := writing [.ticket ticket1 (.insert open1) (some 7)] (withTruck (truck .issuing) running)
       s.calm ∧ s.psu.passage = some (truck .issuing) ∧ (truck .issuing).number = 7 ∧ (truck .issuing).runThrough = false) ∧
      (let s := writing [.ticket ticket1 (.insert open1) (some 7)] (withTruck ranThrough running)
       s.calm ∧ s.psu.passage = some ranThrough ∧ ranThrough.state = .issuing ∧ ranThrough.number = 7 ∧
         ranThrough.runThrough = true ∧ s.stc.store.ticket.next + 1#32 ≠ 0 ∧ s.ylu.exitLoop.accepted ≠ some false) ∧
      (let s := heldBy (.releaseTicket 1) (writing [.release 1] (posted 0 (withTruck (waitingTruck .ringBlocked) running)))
       s.held 9 (.releaseTicket 1) ∧ s.stc.queue = [.release 1] ∧ s.stc.store.ticket.slotOf 1 = some 0 ∧
         0 = s.stc.store.ticket.fill ∧ s.psu.passage = some (waitingTruck .ringBlocked) ∧
         .ringBlocked ∈ (waitingTruck .ringBlocked).holds) ∧
      (let s := heldBy (.purgeTransaction 1) (writing [.purge 1] (openFull (withTruck (waitingTruck .tableFull) running)))
       s.held 9 (.purgeTransaction 1) ∧ s.stc.queue = [.purge 1] ∧ findOpen 1 s.stc.store.transaction.table = some open1 ∧
         s.stc.store.transaction.table.length = 64 ∧ (removeOpen 1 s.stc.store.transaction.table).length = 63 ∧
         s.psu.passage = some (waitingTruck .tableFull) ∧ .tableFull ∈ (waitingTruck .tableFull).holds) ∧
      (let s := heldBy .commitCal (writing [.commit twoCells []] (staging twoCells running))
       s.held 9 .commitCal ∧ s.stc.queue = [.commit twoCells []] ∧ s.reasonSet ≠ []) ∧
      (let s := heldBy .closeAudit (writing [.certificate ticket1 true 0] (queuedFrames 16 (auditing fresh running)))
       s.held 9 .closeAudit ∧ s.stc.queue = [.certificate ticket1 true 0] ∧
         ticket1.body = .audit ⟨true, [], 0, 0, 0, none, none⟩ ∧ s.tli.sending = some (.event 0 .lineBreak) ∧
         s.tli.classA.length ≤ 16) := by
  unfold State.calm State.held State.awake
  repeat' refine And.intro ?_ ?_
  all_goals decide

/-- The part with an issuing passage whose ticket waits at the STC, with the updates behind it. -/
def issuing (p : Passage) (rest : List Update) (s : State) : State :=
  writing (.ticket ticket1 .keep (some p.number) :: rest) (withTruck p s)

theorem witness_UpdateFails :
    ((writing [.reason] running).powered = true ∧ (writing [.reason] running).stc.queue = .reason :: []) ∧
      (running.calm ∧ running.stc.queue = [] ∧ running.rnc.runState ≠ .halting) ∧
      ((writing [.reason] running).calm ∧ (writing [.reason] (verified running)).reasonSet = [] ∧
        (writing [.ticket ticket1 .keep none] running).calm ∧
        (writing [.ticket ticket1 .keep none] running).stc.queue = .ticket ticket1 .keep none :: []) ∧
      (let s := issuing (truck .issuing) [] running
       s.calm ∧ s.stc.queue = .ticket ticket1 .keep (some (truck .issuing).number) :: [] ∧
         s.psu.passage = some (truck .issuing) ∧ (truck .issuing).state = .issuing ∧ (truck .issuing).runThrough = false) ∧
      (let s := heldBy (.releaseTicket 1) (issuing (truck .issuing) [.release 1] (posted 1 (verified running)))
       s.calm ∧ s.held 9 (.releaseTicket 1) ∧ s.rnc.runState ≠ .halting ∧ s.reasonSet = [] ∧
         s.stc.queue = .ticket ticket1 .keep (some (truck .issuing).number) :: [.release 1] ∧
         s.psu.passage = some (truck .issuing)) ∧
      (let s := issuing ranThrough [] running
       s.calm ∧ s.stc.queue = .ticket ticket1 .keep (some ranThrough.number) :: [] ∧ s.psu.passage = some ranThrough ∧
         ranThrough.state = .issuing ∧ ranThrough.runThrough = true ∧ s.ylu.exitLoop.accepted ≠ some false) ∧
      (let s := issuing ranThrough [] (withInput .exitLoop ⟨true, some false, none, none, none, 0⟩ running)
       s.calm ∧ s.psu.passage = some ranThrough ∧ s.ylu.exitLoop.accepted = some false ∧
         s.ylu.entryLoop.accepted ≠ some true) ∧
      (let s := heldBy (.releaseTicket 1) (writing [.release 1] (posted 1 (verified running)))
       s.calm ∧ s.held 9 (.releaseTicket 1) ∧ s.stc.queue = .release 1 :: [] ∧ s.reasonSet = []) ∧
      (let s := heldBy (.purgeTransaction 1) (writing [.purge 1] (withOpen running))
       s.calm ∧ s.held 9 (.purgeTransaction 1) ∧ s.stc.queue = .purge 1 :: []) ∧
      (let s := heldBy .closeAudit (writing [.certificate ticket1 true 0] (auditing fresh running))
       s.calm ∧ s.held 9 .closeAudit ∧ s.stc.queue = .certificate ticket1 true 0 :: []) ∧
      (let s := heldBy .commitCal (writing [.commit twoCells []] (switchClosed (staging twoCells running)))
       s.calm ∧ s.held 9 .commitCal ∧ s.stc.queue = .commit twoCells [] :: [] ∧ s.ylu.calSwitch.accepted = some true) ∧
      (let s := heldBy .commitCal (writing [.commit twoCells []] (staging twoCells running))
       s.calm ∧ s.held 9 .commitCal ∧ s.stc.queue = .commit twoCells [] :: [] ∧ s.ylu.calSwitch.accepted ≠ some true ∧
         s.clu.staged = some twoCells) := by
  unfold State.calm State.held State.awake
  repeat' refine And.intro ?_ ?_
  all_goals decide

end Sys2Proof.Tests
end

section
/-! SUPPORT. ZERO_DECK (R36, R37): what an answered directive leaves of a ready part, the refusals of one deck row by row,
the deck that has been zeroed, and the choice between all configured decks and none. -/

namespace Sys2Proof.Machine

/-! ## A directive answered as it arrives -/

/-- A directive that its owner answers at once on a ready part: the effect on the rest of the part is `t`. -/
theorem arrive_replied {s t : State} (hs : s.ready) (ht : t.ready) {now : Stamp} {ref : Byte} {d : Directive}
    {st : Status} {r : Result} (hw : d.wellFormed = true)
    (hrun : runDirective d (queued now ref d s) = answer st r (queued now ref d t)) :
    arrive now ref d s = .next (replied now ref d.code st r t) := by
  have hq : (queued now ref d t).tli.directives = [⟨ref, d⟩] := rfl
  rw [arrive_ready hs now ref hw, hrun, answer_only st r hq, queued_unqueued ht]
  rfl

/-- ZERO_DECK on a ready part, from what its owner answers. -/
theorem zeroDeck_replied {s t : State} (hs : s.ready) (ht : t.ready) {now : Stamp} {ref deck : Byte} {st : Status}
    {r : Result} (hrun : zeroDeck deck (queued now ref (.zeroDeck deck) s) = answer st r (queued now ref (.zeroDeck deck) t)) :
    exec (.zeroDeck now ref deck) s = .next (replied now ref 0x08 st r t) :=
  arrive_replied hs ht rfl hrun

/-- ZERO_DECK is judged by nothing that its own arrival changes. -/
@[simp] theorem zeroFlaw_queued (now : Stamp) (ref : Byte) (d : Directive) (s : State) (i : Nat) :
    zeroFlaw (queued now ref d s) i = zeroFlaw s i := rfl

@[simp] theorem queued_deck (now : Stamp) (ref : Byte) (d : Directive) (s : State) (i : Nat) :
    (queued now ref d s).wge.deck i = s.wge.deck i := rfl

/-! ## The rows of R36 -/

/-- Row 2 of R36. -/
theorem zeroFlaw_not_run {s : State} (i : Nat) (h : s.rnc.runState ≠ .run) : zeroFlaw s i = some .wrongState := by
  simp [zeroFlaw, h]

/-- Row 3 of R36. -/
theorem zeroFlaw_absent {s : State} {i : Nat} (hr : s.rnc.runState = .run) (hd : s.wge.deck i = none) :
    zeroFlaw s i = some .notFound := by
  simp [zeroFlaw, hr, hd]

/-- Row 4 of R36. -/
theorem zeroFlaw_busy {s : State} {i : Nat} {d : Deck} (hr : s.rnc.runState = .run) (hd : s.wge.deck i = some d)
    (hp : s.psu.passage ≠ none) : zeroFlaw s i = some .busy := by
  simp [zeroFlaw, hr, hd, State.idle, hp]

/-- Row 5 of R36. -/
theorem zeroFlaw_unstable {s : State} {i : Nat} {d : Deck} (hr : s.rnc.runState = .run) (hd : s.wge.deck i = some d)
    (hp : s.psu.passage = none) (h : d.state ≠ .valid ∨ d.stable = false) : zeroFlaw s i = some .unstable := by
  simp only [zeroFlaw, hr, hd, State.idle, hp, bne_self_eq_false, Option.isNone_none, Bool.not_true, Bool.false_eq_true,
    if_false]
  split
  · next hv hs _ _ => simp [hv, hs] at h
  · rfl

/-- Rows 6 and 7 of R36: past the rows before, the deck is judged by where its zero would come to lie. -/
theorem zeroFlaw_steady {s : State} {i : Nat} {d : Deck} {f initial : Int} (hr : s.rnc.runState = .run)
    (hd : s.wge.deck i = some d) (hp : s.psu.passage = none) (hv : d.state = .valid) (hs : d.stable = true)
    (hf : d.value = some f) (hz : d.initialZero = some initial) :
    zeroFlaw s i =
      if s.setInUse.maxLoad * 20 < (d.zero + f - initial).natAbs then some .outOfZeroRange else none := by
  simp only [zeroFlaw, hr, hd, State.idle, hp, hv, hs, hf, hz, CalSet.zeroLimit]
  norm_cast

/-! ## One deck -/

/-- A deck that is zeroed while F is present: the zero takes F up, the histories give it off, and F is 0. -/
theorem zeroed_of_value {d : Deck} {f : Int} (hf : d.value = some f) :
    d.zeroed =
      { d with
        zero := d.zero + f
        filter := d.filter.map fun x => x - f
        stability := d.stability.map fun x => x - f
        value := some 0
        trackRun := 0 } := by
  simp [Deck.zeroed, Deck.rebased, hf]

/-- A flaw of the named deck is its refusal. -/
theorem zeroOne_refused {s : State} {i : Nat} {flaw : Status} (h : zeroFlaw s i = some flaw) :
    zeroOne i s = answer flaw .nothing s := by
  simp [zeroOne, h]

/-- A configured deck without a flaw is zeroed. -/
theorem zeroOne_done {s : State} {i : Nat} {d : Deck} (h : zeroFlaw s i = none) (hd : s.wge.deck i = some d) :
    zeroOne i s = answer .done (.correction (d.value.getD 0)) (setDeck i d.zeroed s) := by
  simp [zeroOne, h, hd]

/-- A number of 0 to 3 names one deck. -/
theorem zeroDeck_of_lt {deck : Byte} (h : deck.toNat < 4) (s : State) : zeroDeck deck s = zeroOne deck.toNat s := by
  have hall : deck ≠ 0xFF := by rintro rfl; exact absurd h (by decide)
  rw [zeroDeck, if_neg hall, if_pos h]

/-- A number of 4 to FEh names no deck. -/
theorem zeroDeck_of_ge {deck : Byte} (h : 4 ≤ deck.toNat) (hall : deck ≠ 0xFF) (s : State) :
    zeroDeck deck s = answer .badValue .nothing s := by
  rw [zeroDeck, if_neg hall, if_neg (by omega)]

/-- A ready part refuses to zero one deck with the deck's flaw, and is otherwise as it was. -/
theorem exec_zeroDeck_refused {s : State} (h : s.ready) (now : Stamp) (ref : Byte) {deck : Byte} {flaw : Status}
    (hdeck : deck.toNat < 4) (hflaw : zeroFlaw s deck.toNat = some flaw) :
    exec (.zeroDeck now ref deck) s = .next (replied now ref 0x08 flaw .nothing s) := by
  refine zeroDeck_replied h h ?_
  rw [zeroDeck_of_lt hdeck, zeroOne_refused]
  simpa using hflaw

/-- A ready part zeroes one deck that has no flaw. -/
theorem exec_zeroDeck_done {s : State} (h : s.ready) (now : Stamp) (ref : Byte) {deck : Byte} {d : Deck}
    (hdeck : deck.toNat < 4) (hflaw : zeroFlaw s deck.toNat = none) (hd : s.wge.deck deck.toNat = some d) :
    exec (.zeroDeck now ref deck) s =
      .next (replied now ref 0x08 .done (.correction (d.value.getD 0)) (setDeck deck.toNat d.zeroed s)) := by
  refine zeroDeck_replied h (t := setDeck deck.toNat d.zeroed s) h ?_
  rw [zeroDeck_of_lt hdeck, zeroOne_done (d := d) (by simpa using hflaw) (by simpa using hd)]
  rfl

/-! ## All decks -/

theorem mem_configuredDecks {s : State} {i : Nat} : i ∈ s.configuredDecks ↔ i < 4 ∧ s.wge.deck i ≠ none := by
  simp [State.configuredDecks, Option.isSome_iff_ne_none]

/-- The lowest configured deck with a flaw is the first that the judging finds. -/
theorem find_zeroFlaw {s : State} {i : Nat} {flaw : Status} (hi : i ∈ s.configuredDecks) (hflaw : zeroFlaw s i = some flaw)
    (hlow : ∀ j, j < i → j ∈ s.configuredDecks → zeroFlaw s j = none) :
    s.configuredDecks.find? (fun j => (zeroFlaw s j).isSome) = some i := by
  obtain ⟨hlt, hdeck⟩ := mem_configuredDecks.1 hi
  rw [State.configuredDecks, List.find?_filter, List.find?_range_eq_some]
  refine ⟨by simp [hflaw, Option.isSome_iff_ne_none, hdeck], List.mem_range.2 hlt, fun j hj => ?_⟩
  have hnone := fun hc => hlow j hj (mem_configuredDecks.2 ⟨by omega, hc⟩)
  cases hd : s.wge.deck j with
  | none => rfl
  | some d => simp [hnone (by simp [hd])]

/-- The corrections that the DONE of R37 carries: each configured deck with its F. -/
def State.zeroCorrections (s : State) : List (Nat × Int) :=
  s.configuredDecks.filterMap fun i => (s.wge.deck i).map fun d => (i, d.value.getD 0)

theorem mem_zeroCorrections {s : State} {i : Nat} {x : Int} :
    (i, x) ∈ s.zeroCorrections ↔ i < 4 ∧ ∃ d, s.wge.deck i = some d ∧ x = d.value.getD 0 := by
  simp only [State.zeroCorrections, List.mem_filterMap, mem_configuredDecks]
  constructor
  · rintro ⟨j, ⟨hj, -⟩, hx⟩
    obtain ⟨d, hd, hp⟩ := Option.map_eq_some_iff.1 hx
    obtain ⟨rfl, rfl⟩ := Prod.mk.inj hp
    exact ⟨hj, d, hd, rfl⟩
  · rintro ⟨hi, d, hd, rfl⟩
    exact ⟨i, ⟨hi, by simp [hd]⟩, by simp [hd]⟩

/-- A part whose configured decks have all been zeroed. -/
def zeroedDecks (s : State) : State := { s with wge := { s.wge with decks := s.wge.decks.map (Option.map Deck.zeroed) } }

theorem zeroAll_unconfigured {s : State} (h : s.configuredDecks = []) : zeroAll s = answer .notFound .nothing s := by
  simp [zeroAll, h]

/-- With a configured deck, the answer is the flaw found first, or all decks are zeroed. -/
theorem zeroAll_configured {s : State} (h : s.configuredDecks ≠ []) :
    zeroAll s =
      match s.configuredDecks.find? (fun i => (zeroFlaw s i).isSome) with
      | some i => answer ((zeroFlaw s i).getD .unstable) (.deck i) s
      | none => answer .done (.corrections s.zeroCorrections) (zeroedDecks s) := by
  unfold zeroAll
  split
  · next hnil => exact absurd hnil h
  · rfl

theorem zeroAll_refused {s : State} {i : Nat} {flaw : Status} (hi : i ∈ s.configuredDecks)
    (hflaw : zeroFlaw s i = some flaw) (hlow : ∀ j, j < i → j ∈ s.configuredDecks → zeroFlaw s j = none) :
    zeroAll s = answer flaw (.deck i) s := by
  simp [zeroAll_configured (List.ne_nil_of_mem hi), find_zeroFlaw hi hflaw hlow, hflaw]

theorem zeroAll_done {s : State} (h : s.configuredDecks ≠ []) (hnone : ∀ i ∈ s.configuredDecks, zeroFlaw s i = none) :
    zeroAll s = answer .done (.corrections s.zeroCorrections) (zeroedDecks s) := by
  have hfind : s.configuredDecks.find? (fun i => (zeroFlaw s i).isSome) = none :=
    List.find?_eq_none.2 fun i hi => by simp [hnone i hi]
  simp [zeroAll_configured h, hfind]

/-- A ready part refuses to zero all decks with the flaw and the number of the lowest that fails. -/
theorem exec_zeroDeckAll_refused {s : State} (h : s.ready) (now : Stamp) (ref : Byte) {i : Nat} {flaw : Status}
    (hi : i ∈ s.configuredDecks) (hflaw : zeroFlaw s i = some flaw)
    (hlow : ∀ j, j < i → j ∈ s.configuredDecks → zeroFlaw s j = none) :
    exec (.zeroDeckAll now ref) s = .next (replied now ref 0x08 flaw (.deck i) s) :=
  zeroDeck_replied h h (zeroAll_refused (s := queued now ref _ s) hi hflaw hlow)

/-- A ready part zeroes all configured decks when none has a flaw. -/
theorem exec_zeroDeckAll_done {s : State} (h : s.ready) (now : Stamp) (ref : Byte) (hs : s.configuredDecks ≠ [])
    (hnone : ∀ i ∈ s.configuredDecks, zeroFlaw s i = none) :
    exec (.zeroDeckAll now ref) s =
      .next (replied now ref 0x08 .done (.corrections s.zeroCorrections) (zeroedDecks s)) :=
  zeroDeck_replied h (t := zeroedDecks s) h (zeroAll_done (s := queued now ref _ s) hs hnone)

/-! ## The statements -/

/-- Settles O33: each row of R36 is a value of `zeroFlaw`, and row 7 zeroes the deck. -/
theorem zeroDeckByTable : Obligations.ZeroDeckByTable := by
  intro s now ref deck h
  refine ⟨fun hdeck hall => zeroDeck_replied h h (zeroDeck_of_ge hdeck hall _),
    fun hdeck hr => exec_zeroDeck_refused h now ref hdeck (zeroFlaw_not_run _ hr),
    fun hdeck hr hd => exec_zeroDeck_refused h now ref hdeck (zeroFlaw_absent hr hd), fun d hdeck hr hd => ?_⟩
  refine ⟨fun hp => exec_zeroDeck_refused h now ref hdeck (zeroFlaw_busy hr hd hp),
    fun hp hu => exec_zeroDeck_refused h now ref hdeck (zeroFlaw_unstable hr hd hp hu), fun f initial hp hv hs hf hz => ?_⟩
  have hjudged := zeroFlaw_steady hr hd hp hv hs hf hz
  constructor
  · intro hfar
    exact exec_zeroDeck_refused h now ref hdeck (hjudged.trans (if_pos hfar))
  · intro hnear
    have hdone := exec_zeroDeck_done h now ref hdeck (hjudged.trans (if_neg (by omega))) hd
    simpa only [hf, Option.getD_some, zeroed_of_value hf, setDeck] using hdone

/-- Settles O34: the lowest configured deck with a flaw answers for all, and without one every deck is zeroed. -/
theorem zeroAllDecksOrNone : Obligations.ZeroAllDecksOrNone := by
  intro s now ref h run configured
  have hconf (i : Nat) : i ∈ s.configuredDecks ↔ configured i := mem_configuredDecks
  have hfirst (i : Nat) (flaw : Status) (hi : configured i) (hflaw : zeroFlaw s i = some flaw)
      (hlow : ∀ j, j < i → configured j → zeroFlaw s j = none) :
      run = .next (replied now ref 0x08 flaw (.deck i) s) :=
    exec_zeroDeckAll_refused h now ref ((hconf i).2 hi) hflaw fun j hj hc => hlow j hj ((hconf j).1 hc)
  refine ⟨fun hno => ?_, fun i hr hi hlow => ?_, fun i hr hp hi hlow => ?_, hfirst, fun ⟨i, hi⟩ hnone => ?_⟩
  · have hnil : s.configuredDecks = [] := List.eq_nil_iff_forall_not_mem.2 fun i hi => hno i ((hconf i).1 hi)
    exact zeroDeck_replied h h (zeroAll_unconfigured (s := queued now ref _ s) hnil)
  · exact hfirst i _ hi (zeroFlaw_not_run i hr) fun j hj hc => absurd hc (hlow j hj)
  · obtain ⟨d, hd⟩ := Option.ne_none_iff_exists'.1 hi.2
    exact hfirst i _ hi (zeroFlaw_busy hr hd hp) fun j hj hc => absurd hc (hlow j hj)
  · have hsome : s.configuredDecks ≠ [] := List.ne_nil_of_mem ((hconf i).2 hi)
    exact ⟨s.zeroCorrections, exec_zeroDeckAll_done h now ref hsome fun j hj => hnone j ((hconf j).1 hj),
      fun _ _ => mem_zeroCorrections⟩

end Sys2Proof.Machine
end

section
/-! SUPPORT. The lights and the barrier (R60 to R62): the levels of the three outputs condition by condition, and that every
command but POWER_ON and POWER_LOSS ends with the outputs recomputed. -/

namespace Sys2Proof.Machine

/-! ## The levels of the outputs -/

theorem idle_iff {s : State} : s.idle = true ↔ s.psu.passage = none := by simp [State.idle]

theorem verified_iff {s : State} : s.verified = true ↔ s.reasonSet = [] := by simp [State.verified]

theorem calibrating_eq_false_iff {s : State} : s.calibrating = false ↔ s.clu.staged = none := by simp [State.calibrating]

/-- ENTRY_GREEN's level is the eight conditions of R60 as their owners have them. -/
theorem lightConditions_entryGreen_iff {s : State} :
    s.lightConditions.entryGreen = true ↔
      s.rnc.runState = .run ∧ s.reasonSet = [] ∧ s.cck.isSet = true ∧ s.vfu.session = none ∧ s.clu.staged = none ∧
        s.psu.passage = none ∧ (s.ticketsUsable = true ∧ s.fillSlotPosted = false) ∧ s.stc.fault = false := by
  simp only [LightConditions.entryGreen, State.lightConditions, Bool.and_eq_true, beq_iff_eq, Bool.not_eq_true',
    verified_iff, calibrating_eq_false_iff, idle_iff, Option.isNone_iff_eq_none, and_assoc]

/-- The exit outputs' level is the condition of R62. -/
theorem exitOpen_iff {s : State} :
    s.exitOpen = true ↔ ∃ p, s.psu.passage = some p ∧ (p.state = .done ∧ p.holds = [] ∨ p.state = .leaving) := by
  cases hp : s.psu.passage <;> simp [State.exitOpen, hp]

/-- The YLU holds the owners' conditions and drives the three outputs by them (R61). -/
def State.lit (s : State) : Prop :=
  s.ylu.conditions = s.lightConditions ∧ s.ylu.entryGreen = s.lightConditions.entryGreen ∧
    s.ylu.exitGreen = s.exitOpen ∧ s.ylu.exitBarrier = s.exitOpen

theorem refreshLights_lit (s : State) : (refreshLights s).lit := ⟨rfl, rfl, rfl, rfl⟩

theorem lit_lightsFollow {s : State} (h : s.lit) : s.lightsFollow := by
  obtain ⟨hcond, hentry, hexit, hbarrier⟩ := h
  refine fun _ => ⟨hcond, ?_, ?_, hbarrier.trans hexit.symm⟩
  · rw [hentry, lightConditions_entryGreen_iff]
  · rw [hexit, exitOpen_iff]

/-- While the power-on check runs, the outputs follow no condition (R64, log 52). -/
theorem checking_lightsFollow {s : State} (h : s.stc.checking = true) : s.lightsFollow := by
  rintro ⟨-, hc⟩
  simp [h] at hc

/-- Without power the outputs follow no condition (log 6). -/
theorem unpowered_lightsFollow {s : State} (h : s.powered = false) : s.lightsFollow := by
  rintro ⟨hp, -⟩
  simp [h] at hp

/-! ## What follows every handling -/

/-- A round of the directive queue recomputes the outputs after each directive, whatever the directive did. -/
theorem drain_lit : ∀ (n : Nat) {s : State}, s.lit → (drain n s).lit
  | 0, _, hs => hs
  | n + 1, s, hs => by
    simp only [drain]
    split
    · split
      · exact hs
      · exact drain_lit n (refreshLights_lit _)
    · exact hs

/-- What follows a handling recomputes the outputs, or the power-on check still runs. -/
theorem finish_lightsFollow (s : State) : (finish s).lightsFollow := by
  simp only [finish]
  split
  · next hc => exact checking_lightsFollow hc
  · exact lit_lightsFollow (drain_lit _ (refreshLights_lit s))

/-! ## What a step can do -/

/-- Every command but POWER_ON and POWER_LOSS is an effect at a timebase reading, with what follows every handling. -/
theorem exec_handles (i : Instr) :
    (∃ rate1 rate0 levels, i = .powerOn rate1 rate0 levels) ∨ i = .powerLoss ∨
      ∃ now effect, ∀ s, exec i s = handle now effect s := by
  cases i
  case powerOn rate1 rate0 levels => exact .inl ⟨rate1, rate0, levels, rfl⟩
  case powerLoss => exact .inr (.inl rfl)
  case storeUpdateComplete now => exact .inr (.inr ⟨now, fun s => haltGoesOn (updateComplete s), fun _ => rfl⟩)
  case storeUpdateFailed now => exact .inr (.inr ⟨now, fun s => haltGoesOn (updatesFail s), fun _ => rfl⟩)
  all_goals exact .inr (.inr ⟨_, _, fun _ => rfl⟩)

/-- What a command leaves: a part that begins its power-on check, a part without power, or what follows a handling. -/
theorem exec_cases {i : Instr} {s t : State} (h : exec i s = .next t) :
    t.stc.checking = true ∨ t.powered = false ∨ ∃ u, t = finish u := by
  obtain ⟨rate1, rate0, levels, rfl⟩ | rfl | ⟨now, effect, he⟩ := exec_handles i
  · cases h
    exact .inl rfl
  · cases h
    exact .inr (.inl rfl)
  · rw [he, handle_next] at h
    cases h
    cases hp : s.powered with
    | false => exact .inr (.inl hp)
    | true => exact .inr (.inr ⟨effect (atTime now s), rfl⟩)

/-- A step is an idle step on an empty queue, or the command at the front of the queue. -/
theorem step_cases {s t : State} (h : step s = .next t) :
    t = idleStep s ∨ ∃ i rest, s.pending = i :: rest ∧ exec i { s with pending := rest } = .next t := by
  simp only [step] at h
  split at h
  · cases h
    exact .inl rfl
  · next i rest hp => exact .inr ⟨i, rest, hp, h⟩

/-- An idle step moves the timebase alone, which no output's condition reads. -/
theorem idleStep_lightsFollow {s : State} (h : s.lightsFollow) : (idleStep s).lightsFollow := by
  simp only [idleStep]
  split
  · exact h
  · exact h

theorem exec_lightsFollow {i : Instr} {s t : State} (h : exec i s = .next t) : t.lightsFollow := by
  obtain hc | hp | ⟨u, rfl⟩ := exec_cases h
  · exact checking_lightsFollow hc
  · exact unpowered_lightsFollow hp
  · exact finish_lightsFollow u

/-! ## The statement -/

/-- Settles O5: an idle step keeps the levels, and a command recomputes them or leaves the part asleep. -/
theorem lightsFollowAtEveryStep : Obligations.LightsFollowAtEveryStep := by
  intro s t hs hstep
  obtain rfl | ⟨i, rest, -, hexec⟩ := step_cases hstep
  · exact idleStep_lightsFollow hs
  · exact exec_lightsFollow hexec

end Sys2Proof.Machine
end

section
/-! SUPPORT. The vehicle table and the hold mask (R92, R93, R99, R100): DROP_VEHICLE row by row and CLEAR_VEHICLES, the bits of
a tag's hold-mask index and what a lookup reads by it, and PUT_HOLD_MASK row by row with the number of mask bits set. -/

namespace Sys2Proof.Machine

/-! ## Finding and removing an entry -/

/-- A tag is not found when no entry has it. -/
theorem findVehicle_eq_none {tag : Tag} {vs : List Vehicle} (h : ∀ x ∈ vs, x.tag ≠ tag) : findVehicle tag vs = none := by
  simpa [findVehicle] using h

/-- A listed tag is found. -/
theorem exists_findVehicle {tag : Tag} {vs : List Vehicle} (h : ∃ x ∈ vs, x.tag = tag) :
    ∃ v, findVehicle tag vs = some v := by
  rw [← Option.isSome_iff_exists]
  simpa [findVehicle] using h

/-- Removing a tag keeps exactly the entries of the other tags. -/
theorem removeVehicle_eq (tag : Tag) (vs : List Vehicle) :
    removeVehicle tag vs = vs.filter fun x => decide (x.tag ≠ tag) :=
  List.filter_congr fun x _ => by simp [bne, beq_eq_decide]

/-! ## DROP_VEHICLE and CLEAR_VEHICLES -/

/-- Tag 0 is no tag (R92). -/
theorem dropVehicle_zero (s : State) : dropVehicle 0 s = answer .badValue .nothing s := if_pos rfl

theorem dropVehicle_unlisted {tag : Tag} {s : State} (h0 : tag ≠ 0) (h : ∀ x ∈ s.vtb.vehicles, x.tag ≠ tag) :
    dropVehicle tag s = answer .notFound .nothing s := by
  rw [dropVehicle, if_neg h0, findVehicle_eq_none h]

theorem dropVehicle_listed {tag : Tag} {s : State} (h0 : tag ≠ 0) (h : ∃ x ∈ s.vtb.vehicles, x.tag = tag) :
    dropVehicle tag s =
      answer .done (.count (removeVehicle tag s.vtb.vehicles).length) (setVehicles (removeVehicle tag s.vtb.vehicles) s) := by
  obtain ⟨v, hv⟩ := exists_findVehicle h
  rw [dropVehicle, if_neg h0, hv]
  rfl

/-- The replacement of the vehicle table keeps a part ready. -/
theorem setVehicles_ready {s : State} (h : s.ready) (vs : List Vehicle) : (setVehicles vs s).ready := h

/-- DROP_VEHICLE on a ready part, from what its owner answers. -/
theorem dropVehicle_replied {s t : State} (hs : s.ready) (ht : t.ready) {now : Stamp} {ref : Byte} {tag : Tag} {st : Status}
    {r : Result}
    (hrun : dropVehicle tag (queued now ref (.dropVehicle tag) s) = answer st r (queued now ref (.dropVehicle tag) t)) :
    exec (.dropVehicle now ref tag) s = .next (replied now ref 0x0C st r t) :=
  arrive_replied hs ht rfl hrun

/-- A ready part drops the entry of a listed tag and answers how many are left. -/
theorem exec_dropVehicle_listed {s : State} (h : s.ready) (now : Stamp) (ref : Byte) {tag : Tag} (h0 : tag ≠ 0)
    (hin : ∃ x ∈ s.vtb.vehicles, x.tag = tag) :
    exec (.dropVehicle now ref tag) s =
      .next (replied now ref 0x0C .done (.count (removeVehicle tag s.vtb.vehicles).length)
        (setVehicles (removeVehicle tag s.vtb.vehicles) s)) :=
  dropVehicle_replied h (setVehicles_ready h _) (dropVehicle_listed (s := queued now ref _ s) h0 hin)

/-- A ready part clears the vehicle table and answers how many entries it held. -/
theorem exec_clearVehicles {s : State} (h : s.ready) (now : Stamp) (ref : Byte) :
    exec (.clearVehicles now ref) s =
      .next (replied now ref 0x0D .done (.count s.vtb.vehicles.length) (setVehicles [] s)) :=
  arrive_replied h (setVehicles_ready h _) (d := .clearVehicles) rfl rfl

/-- Settles O41: the rows of R92 by whether the tag is listed, and R93. -/
theorem vehiclesAreDropped : Obligations.VehiclesAreDropped := by
  intro s now ref h
  refine ⟨fun tag => ⟨?_, fun h0 hout => ?_, fun h0 hin => ?_⟩, exec_clearVehicles h now ref⟩
  · rintro rfl
    exact dropVehicle_replied h h (dropVehicle_zero _)
  · exact dropVehicle_replied h h (dropVehicle_unlisted (s := queued now ref _ s) h0 hout)
  · rw [← removeVehicle_eq]
    exact exec_dropVehicle_listed h now ref h0 hin

/-! ## The hold-mask index -/

/-- A bit of a six-bit group of a tag is a bit of the tag. -/
theorem getLsbD_tagGroup (tag : Tag) (start : Nat) {i : Nat} (hi : i < 6) :
    (tag.extractLsb' start 6).getLsbD i = tag.getLsbD (i + start) := by
  simp [hi, Nat.add_comm]

/-- The last group has two bits alone. -/
theorem getLsbD_lastGroup (tag : Tag) {i : Nat} (hi : i < 6) :
    ((tag.extractLsb' 30 2).setWidth 6).getLsbD i = (tag.getLsbD (i + 30) && decide (i < 2)) := by
  simp [hi, Nat.add_comm, Bool.and_comm]

/-- R99 bit by bit. -/
theorem holdIndex_getLsbD (tag : Tag) (salt : BitVec 6) {i : Nat} (hi : i < 6) :
    (holdIndex tag salt).getLsbD i =
      (tag.getLsbD i ^^ tag.getLsbD (i + 6) ^^ tag.getLsbD (i + 12) ^^ tag.getLsbD (i + 18) ^^ tag.getLsbD (i + 24) ^^
        (tag.getLsbD (i + 30) && decide (i < 2)) ^^ salt.getLsbD i) := by
  simp only [holdIndex, BitVec.getLsbD_xor, getLsbD_tagGroup tag _ hi, getLsbD_lastGroup tag hi, Nat.add_zero, Bool.xor_assoc]

/-- A lookup carries the tag's index, listed or not. -/
theorem lookupTag_index (s : State) (tag : Tag) : (lookupTag s tag).index = holdIndex tag s.vtb.salt := by
  simp only [lookupTag]
  split <;> rfl

/-- A lookup carries the mask bit at the tag's index, listed or not. -/
theorem lookupTag_probe (s : State) (tag : Tag) : (lookupTag s tag).probe = s.maskBit tag := by
  simp only [lookupTag]
  split <;> rfl

/-! ## PUT_HOLD_MASK -/

/-- The bits counted one by one are those among the places below n that are set. -/
theorem countBits_eq_countP {w : Nat} (mask : BitVec w) (n : Nat) :
    countBits mask n = (List.range n).countP fun i => mask.getLsbD i := by
  induction n with
  | zero => rfl
  | succ n ih => simp [countBits, ih, List.range_succ, List.countP_singleton]

/-- The part with another hold mask and salt. -/
def setHoldMask (mask : BitVec 64) (salt : BitVec 6) (s : State) : State :=
  { s with vtb := { s.vtb with mask := mask, salt := salt } }

/-- The replacement of mask and salt keeps a part ready. -/
theorem setHoldMask_ready {s : State} (h : s.ready) (mask : BitVec 64) (salt : BitVec 6) :
    (setHoldMask mask salt s).ready := h

/-- A salt outside 0 to 63 is refused. -/
theorem putHoldMask_refused {salt : Byte} (h : 63 < salt.toNat) (mask : BitVec 64) (s : State) :
    putHoldMask mask salt s = answer .badValue .nothing s := if_pos h

/-- A salt of 0 to 63 is put with its mask. -/
theorem putHoldMask_done {salt : Byte} (h : salt.toNat ≤ 63) (mask : BitVec 64) (s : State) :
    putHoldMask mask salt s = answer .done (.count (countBits mask 64)) (setHoldMask mask (salt.setWidth 6) s) :=
  if_neg (Nat.not_lt.2 h)

/-- PUT_HOLD_MASK on a ready part, from what its owner answers. -/
theorem putHoldMask_replied {s t : State} (hs : s.ready) (ht : t.ready) {now : Stamp} {ref : Byte} {mask : BitVec 64}
    {salt : Byte} {st : Status} {r : Result}
    (hrun : putHoldMask mask salt (queued now ref (.putHoldMask mask salt) s) =
      answer st r (queued now ref (.putHoldMask mask salt) t)) :
    exec (.putHoldMask now ref mask salt) s = .next (replied now ref 0x11 st r t) :=
  arrive_replied hs ht rfl hrun

/-- A ready part refuses a salt outside 0 to 63 and is otherwise as it was. -/
theorem exec_putHoldMask_refused {s : State} (h : s.ready) (now : Stamp) (ref : Byte) (mask : BitVec 64) {salt : Byte}
    (hsalt : 63 < salt.toNat) :
    exec (.putHoldMask now ref mask salt) s = .next (replied now ref 0x11 .badValue .nothing s) :=
  putHoldMask_replied h h (putHoldMask_refused hsalt mask _)

/-- A ready part replaces mask and salt together and answers the number of mask bits set. -/
theorem exec_putHoldMask_done {s : State} (h : s.ready) (now : Stamp) (ref : Byte) (mask : BitVec 64) {salt : Byte}
    (hsalt : salt.toNat ≤ 63) :
    exec (.putHoldMask now ref mask salt) s =
      .next (replied now ref 0x11 .done (.count (countBits mask 64)) (setHoldMask mask (salt.setWidth 6) s)) :=
  putHoldMask_replied h (setHoldMask_ready h _ _) (putHoldMask_done hsalt mask (queued now ref _ s))

/-- Settles O44: the fold of R99 bit by bit, the lookup's two readings of it, and the two rows of R100. -/
theorem holdMaskIsPutAndRead : Obligations.HoldMaskIsPutAndRead := by
  refine ⟨fun tag salt i hi => holdIndex_getLsbD tag salt hi,
    fun s tag => ⟨lookupTag_index s tag, lookupTag_probe s tag⟩,
    fun s now ref mask salt h => ⟨exec_putHoldMask_refused h now ref mask, fun hsalt => ?_⟩⟩
  rw [← countBits_eq_countP, BitVec.ofNat_toNat]
  exact exec_putHoldMask_done h now ref mask hsalt

end Sys2Proof.Machine
end

section
/-! SUPPORT. FETCH_TICKET and READ_TRANSACTION (R130, R150): when the TKU has its view of ring and table, which slot of the ring
holds a ticket number, which open entry a tag has, a frame offered to a part that judges a directive, and both directives row by
row. -/

namespace Sys2Proof.Machine

/-! ## The view of ring and table -/

/-- R152: both areas undamaged and a next number to give. -/
theorem ticketsUsable_iff {s : State} :
    s.ticketsUsable = true ↔
      s.stc.damaged.ticket = false ∧ s.stc.damaged.transaction = false ∧ s.stc.store.ticket.next ≠ 0 := by
  simp [State.ticketsUsable, and_assoc]

/-- A number is in no slot exactly when no ticket of the ring carries it. -/
theorem slotOf_eq_none_iff {number : BitVec 32} {a : TicketArea} :
    a.slotOf number = none ↔ ∀ t, some t ∈ a.ring → t.number ≠ number := by
  rw [TicketArea.slotOf, List.findIdx?_eq_none_iff]
  refine ⟨fun h t ht => by simpa using h _ ht, fun h slot hslot => ?_⟩
  cases slot with
  | none => rfl
  | some t => simpa using h t hslot

/-- The slot of a number is the lowest whose ticket carries it. -/
theorem slotOf_eq_some {number : BitVec 32} {a : TicketArea} {i : Nat} {t : Ticket} (hi : a.ring.getD i none = some t)
    (ht : t.number = number) (hlow : ∀ j t', j < i → a.ring.getD j none = some t' → t'.number ≠ number) :
    a.slotOf number = some i := by
  have hlen : i < a.ring.length := by
    by_contra hout
    rw [List.getD_eq_default _ _ (Nat.le_of_not_lt hout)] at hi
    cases hi
  rw [List.getD_eq_getElem _ _ hlen] at hi
  rw [TicketArea.slotOf, List.findIdx?_eq_some_iff_getElem]
  refine ⟨hlen, by simp [hi, ht], fun j hj => ?_⟩
  have hother : ∀ t', a.ring[j] = some t' → t'.number ≠ number := fun t' hslot =>
    hlow j t' hj ((List.getD_eq_getElem _ _ (hj.trans hlen)).trans hslot)
  cases hslot : a.ring[j] with
  | none => simp
  | some t' => simpa using hother t' hslot

/-- A tag has no open entry when no entry of the table carries it. -/
theorem findOpen_eq_none {tag : Tag} {table : List OpenEntry} (h : ∀ e ∈ table, e.tag ≠ tag) :
    findOpen tag table = none := by
  simpa [findOpen] using h

/-! ## A frame offered before the reply -/

/-- The arbiter chooses among the frames alone, whatever waits in the directive queue. -/
theorem choose_directives (t : Tli) (qs : List Queued) :
    Tli.choose { t with directives := qs } = { t.choose with directives := qs } := by
  rcases t with ⟨_, _, _, _, _, _, classA, weight, sample, sending, _, _, _, _⟩
  cases sending with
  | some f => rfl
  | none =>
    cases classA with
    | cons f rest => rfl
    | nil =>
      cases weight with
      | some w => rfl
      | none => cases sample <;> rfl

/-- An offer is the same whatever waits in the directive queue. -/
theorem offer_directives (f : Frame) (t : Tli) (qs : List Queued) :
    Tli.offer f { t with directives := qs } = { t.offer f with directives := qs } := by
  by_cases hroom : t.classA.length < Config.classACapacity
  · simp only [Tli.offer, hroom, if_true]
    exact choose_directives { t with classA := t.classA ++ [f] } qs
  · simp only [Tli.offer, hroom, if_false]
    exact choose_directives { t with overflow := true } qs

/-- A frame offered while a directive is judged is a frame offered before the directive arrived. -/
theorem offer_queued (f : Frame) (now : Stamp) (ref : Byte) (d : Directive) (s : State) :
    offer f (queued now ref d s) = queued now ref d (offer f s) := by
  have hlink : (queued now ref d s).tli.offer f = (queued now ref d (offer f s)).tli := offer_directives f s.tli _
  rw [offer, hlink]
  rfl

/-- An offered frame keeps a part ready. -/
theorem offer_ready {s : State} (h : s.ready) (f : Frame) : (offer f s).ready := by
  obtain ⟨hawake, hd, hx⟩ := h
  obtain ⟨hdirectives, hexecuting, -⟩ := offer_keeps s.tli f
  exact ⟨hawake, hdirectives.trans hd, hexecuting.trans hx⟩

/-! ## FETCH_TICKET -/

/-- Number 0 is no ticket's number (R150). -/
theorem fetchTicket_zero (s : State) : fetchTicket 0 s = answer .badValue .nothing s := if_pos rfl

theorem fetchTicket_unusable {number : BitVec 32} {s : State} (h0 : number ≠ 0) (hu : ¬ s.ticketsUsable = true) :
    fetchTicket number s = answer .storeFault .nothing s := by
  rw [fetchTicket, if_neg h0, if_pos (by simpa using hu)]

theorem fetchTicket_unposted {number : BitVec 32} {s : State} (h0 : number ≠ 0) (hu : s.ticketsUsable = true)
    (h : s.stc.store.ticket.slotOf number = none) : fetchTicket number s = answer .notFound .nothing s := by
  rw [fetchTicket, if_neg h0, if_neg (by simp [hu]), h]

theorem fetchTicket_posted {number : BitVec 32} {s : State} {i : Nat} {t : Ticket} (h0 : number ≠ 0)
    (hu : s.ticketsUsable = true) (h : s.stc.store.ticket.slotOf number = some i)
    (ht : s.stc.store.ticket.ring.getD i none = some t) :
    fetchTicket number s = answer .done (.slot i) (offer (.ticket true i t) s) := by
  rw [fetchTicket, if_neg h0, if_neg (by simp [hu]), h]
  simp only [ht]

/-- FETCH_TICKET on a ready part, from what its owner answers. -/
theorem fetchTicket_replied {s t : State} (hs : s.ready) (ht : t.ready) {now : Stamp} {ref : Byte} {number : BitVec 32}
    {st : Status} {r : Result}
    (hrun : fetchTicket number (queued now ref (.fetchTicket number) s) =
      answer st r (queued now ref (.fetchTicket number) t)) :
    exec (.fetchTicket now ref number) s = .next (replied now ref 0x16 st r t) :=
  arrive_replied hs ht rfl hrun

/-- A ready part sends a posted ticket again, and then the reply with its slot. -/
theorem exec_fetchTicket_posted {s : State} (h : s.ready) (now : Stamp) (ref : Byte) {number : BitVec 32} {i : Nat}
    {t : Ticket} (h0 : number ≠ 0) (hu : s.ticketsUsable = true) (hslot : s.stc.store.ticket.slotOf number = some i)
    (ht : s.stc.store.ticket.ring.getD i none = some t) :
    exec (.fetchTicket now ref number) s =
      .next (replied now ref 0x16 .done (.slot i) (offer (.ticket true i t) s)) := by
  refine fetchTicket_replied h (offer_ready h _) ?_
  rw [← offer_queued]
  exact fetchTicket_posted (s := queued now ref _ s) h0 hu hslot ht

/-! ## READ_TRANSACTION -/

/-- Tag 0 is no tag (R130). -/
theorem readTransaction_zero (s : State) : readTransaction 0 s = answer .badValue .nothing s := if_pos rfl

theorem readTransaction_unusable {tag : Tag} {s : State} (h0 : tag ≠ 0) (hu : ¬ s.ticketsUsable = true) :
    readTransaction tag s = answer .storeFault .nothing s := by
  rw [readTransaction, if_neg h0, if_pos (by simpa using hu)]

theorem readTransaction_unlisted {tag : Tag} {s : State} (h0 : tag ≠ 0) (hu : s.ticketsUsable = true)
    (h : findOpen tag s.stc.store.transaction.table = none) :
    readTransaction tag s =
      answer .notFound (.transaction none s.stc.store.transaction.table.length s.counters) s := by
  rw [readTransaction, if_neg h0, if_neg (by simp [hu])]
  simp only [h]

theorem readTransaction_listed {tag : Tag} {s : State} {e : OpenEntry} (h0 : tag ≠ 0) (hu : s.ticketsUsable = true)
    (h : findOpen tag s.stc.store.transaction.table = some e) :
    readTransaction tag s =
      answer .done (.transaction (some e) s.stc.store.transaction.table.length s.counters) s := by
  rw [readTransaction, if_neg h0, if_neg (by simp [hu])]
  simp only [h]

/-- READ_TRANSACTION on a ready part, from what its owner answers. -/
theorem readTransaction_replied {s : State} (h : s.ready) {now : Stamp} {ref : Byte} {tag : Tag} {st : Status} {r : Result}
    (hrun : readTransaction tag (queued now ref (.readTransaction tag) s) =
      answer st r (queued now ref (.readTransaction tag) s)) :
    exec (.readTransaction now ref tag) s = .next (replied now ref 0x17 st r s) :=
  arrive_replied h h rfl hrun

/-- Settles O49: R150 by the slot that holds the number, R130 by the open entry of the tag, each row leaving the store as it
was. -/
theorem ticketsAndTransactionsAreRead : Obligations.TicketsAndTransactionsAreRead := by
  intro s now ref h
  dsimp only
  rw [← ticketsUsable_iff]
  refine ⟨fun number => ⟨?_, fun h0 hu => ?_, fun h0 hu hout => ?_, fun i t h0 hu hi ht hlow => ?_⟩,
    fun tag => ⟨?_, fun h0 hu => ?_, fun h0 hu hout => ?_, fun e h0 hu he => ?_⟩⟩
  · exact fetchTicket_replied h h (fetchTicket_zero _)
  · exact fetchTicket_replied h h (fetchTicket_unusable (s := queued now ref _ s) h0 hu)
  · exact fetchTicket_replied h h (fetchTicket_unposted (s := queued now ref _ s) h0 hu (slotOf_eq_none_iff.2 hout))
  · exact exec_fetchTicket_posted h now ref h0 hu (slotOf_eq_some hi ht hlow) hi
  · exact readTransaction_replied h (readTransaction_zero _)
  · exact readTransaction_replied h (readTransaction_unusable (s := queued now ref _ s) h0 hu)
  · exact readTransaction_replied h (readTransaction_unlisted (s := queued now ref _ s) h0 hu (findOpen_eq_none hout))
  · exact readTransaction_replied h (readTransaction_listed (s := queued now ref _ s) h0 hu he)

end Sys2Proof.Machine
end

section
/-! SUPPORT. The Calibration Unit's directives that hand the store nothing (R157, R158, R160, R167, R171): an answered directive
whose effect the outputs follow, a change of the set in use while a directive is judged, and ENTER_CAL, LEAVE_CAL, READ_PARAM and
READ_TRAIL row by row. -/

namespace Sys2Proof.Machine

/-! ## An effect that moves the conditions of the outputs -/

/-- Outputs recomputed before an answer are recomputed again after it. -/
theorem refreshLights_answer (st : Status) (r : Result) (s : State) :
    refreshLights (answer st r (refreshLights s)) = refreshLights (answer st r s) := by
  cases hq : s.tli.directives with
  | nil => simp only [answer, refreshLights_tli, hq, refreshLights_twice]
  | cons q rest =>
    rw [answer_cons st r hq, answer_cons (s := refreshLights s) st r hq]
    rfl

/-- A directive that its owner answers at once on a ready part, having changed what the outputs follow: they follow `t` once the
answer is offered. -/
theorem arrive_replied_refreshed {s t u : State} (hs : s.ready) (ht : t.ready) {now : Stamp} {ref : Byte} {d : Directive}
    {st : Status} {r : Result} (hw : d.wellFormed = true) (hlit : refreshLights u = queued now ref d t)
    (hrun : runDirective d (queued now ref d s) = answer st r u) :
    arrive now ref d s = .next (replied now ref d.code st r t) := by
  have hq : (queued now ref d t).tli.directives = [⟨ref, d⟩] := rfl
  rw [arrive_ready hs now ref hw, hrun, ← refreshLights_answer, hlit, answer_only st r hq, queued_unqueued ht]
  rfl

/-! ## A change of the set in use while a directive is judged -/

/-- The part with another state of the yard lines and the terminal link. -/
def withLines (y : Ylu) (t : Tli) (s : State) : State := { s with ylu := y, tli := t }

/-- The part with another staged set, or with none, and no opening recorded: what R158 begins and R167 ends with. -/
def withStaged (staged : Option CalSet) (s : State) : State :=
  { s with clu := { staged := staged, openingRecorded := false } }

/-- Calibration mode plays no part in whether a directive is judged as it arrives. -/
theorem withStaged_ready {s : State} (h : s.ready) (staged : Option CalSet) : (withStaged staged s).ready := h

/-- The AXM takes a change of the set in use from neither the yard lines nor the terminal link. -/
theorem axlesUnder_withLines (old : CalSet) (y : Ylu) (t : Tli) (s : State) :
    axlesUnder old (withLines y t s) = withLines y t (axlesUnder old s) := by
  simp only [axlesUnder, apply_ite (withLines y t)]
  rfl

/-- A change of the set in use neither reads nor writes the yard lines and the terminal link. -/
theorem setChanged_withLines (old : CalSet) (reload : Bool) (y : Ylu) (t : Tli) (s : State) :
    setChanged old reload (withLines y t s) = withLines y t (setChanged old reload s) :=
  axlesUnder_withLines old y t (weighUnder old reload s)

/-- A change of the set in use keeps a part ready. -/
theorem setChanged_ready {s : State} (h : s.ready) (old : CalSet) (reload : Bool) : (setChanged old reload s).ready := by
  rw [setChanged_eq]
  exact h

/-- The outputs follow a new staged set, taken while a directive is judged, as they follow one taken before it arrived. -/
theorem refreshLights_withStaged_queued (staged : Option CalSet) (now : Stamp) (ref : Byte) (d : Directive) (s : State) :
    refreshLights (withStaged staged (queued now ref d s)) = queued now ref d (withStaged staged s) := rfl

/-- The same with the change of the set in use that the new staged set brings. -/
theorem refreshLights_setChanged_queued (old : CalSet) (reload : Bool) (staged : Option CalSet) (now : Stamp) (ref : Byte)
    (d : Directive) (s : State) :
    refreshLights (setChanged old reload (withStaged staged (queued now ref d s))) =
      queued now ref d (setChanged old reload (withStaged staged s)) := by
  have hlines : withStaged staged (queued now ref d s) =
      withLines (queued now ref d s).ylu (queued now ref d s).tli (withStaged staged s) := rfl
  rw [hlines, setChanged_withLines, setChanged_eq]
  rfl

/-! ## ENTER_CAL -/

section
variable {s : State}

/-- Row 1 of R157. -/
theorem enterCal_not_run (h : s.rnc.runState ≠ .run) : enterCal s = answer .wrongState .nothing s :=
  if_pos (by simpa using h)

/-- Row 2 of R157. -/
theorem enterCal_on (hr : s.rnc.runState = .run) (h : s.clu.staged ≠ none) :
    enterCal s = answer .wrongState .nothing s := by
  simp [enterCal, hr, State.calibrating, Option.isSome_iff_ne_none.2 h]

/-- Row 3 of R157, for a switch accepted open and for one that is UNSETTLED. -/
theorem enterCal_switch_open (hr : s.rnc.runState = .run) (hm : s.clu.staged = none)
    (h : s.ylu.calSwitch.accepted ≠ some true) : enterCal s = answer .switchOpen .nothing s := by
  simp [enterCal, hr, calibrating_eq_false_iff.2 hm, State.switchClosed, h]

/-- Rows 4 to 6 of R157: past the rows before, ENTER_CAL is judged by the passage and the audit session. -/
theorem enterCal_closed (hr : s.rnc.runState = .run) (hm : s.clu.staged = none) (hc : s.ylu.calSwitch.accepted = some true) :
    enterCal s =
      if s.psu.passage ≠ none then answer .busy .nothing s
      else if s.vfu.session ≠ none then answer .busy .nothing s
      else answer .done (.entered s.stc.store.calibration.count s.unaudited (48 - s.unaudited))
        (withStaged (some s.committed) s) := by
  simp [enterCal, hr, calibrating_eq_false_iff.2 hm, State.switchClosed, hc, State.idle, withStaged, Option.isSome_iff_ne_none]

/-- Rows 4 and 5 of R157. -/
theorem enterCal_busy (hr : s.rnc.runState = .run) (hm : s.clu.staged = none) (hc : s.ylu.calSwitch.accepted = some true)
    (h : s.psu.passage ≠ none ∨ s.vfu.session ≠ none) : enterCal s = answer .busy .nothing s := by
  rw [enterCal_closed hr hm hc, ← ite_or, if_pos h]

/-- Row 6 of R157. -/
theorem enterCal_done (hr : s.rnc.runState = .run) (hm : s.clu.staged = none) (hc : s.ylu.calSwitch.accepted = some true)
    (hp : s.psu.passage = none) (hv : s.vfu.session = none) :
    enterCal s =
      answer .done (.entered s.stc.store.calibration.count s.unaudited (48 - s.unaudited))
        (withStaged (some s.committed) s) := by
  rw [enterCal_closed hr hm hc, if_neg (not_not.2 hp), if_neg (not_not.2 hv)]

end

/-- A ready part refuses ENTER_CAL and is otherwise as it was, from what its owner answers. -/
theorem enterCal_refused {s : State} (h : s.ready) {now : Stamp} {ref : Byte} {flaw : Status}
    (hrun : enterCal (queued now ref .enterCal s) = answer flaw .nothing (queued now ref .enterCal s)) :
    exec (.enterCal now ref) s = .next (replied now ref 0x19 flaw .nothing s) :=
  arrive_replied h h (d := .enterCal) rfl hrun

/-- Row 6 of R157 with R158: a ready part begins calibration mode on a copy of the committed set. -/
theorem exec_enterCal_done {s : State} (h : s.ready) (now : Stamp) (ref : Byte) (hr : s.rnc.runState = .run)
    (hm : s.clu.staged = none) (hc : s.ylu.calSwitch.accepted = some true) (hp : s.psu.passage = none)
    (hv : s.vfu.session = none) :
    exec (.enterCal now ref) s =
      .next (replied now ref 0x19 .done (.entered s.stc.store.calibration.count s.unaudited (48 - s.unaudited))
        (withStaged (some s.committed) s)) :=
  arrive_replied_refreshed h (withStaged_ready h _) (d := .enterCal) rfl (refreshLights_withStaged_queued ..)
    (enterCal_done (s := queued now ref .enterCal s) hr hm hc hp hv)

/-! ## LEAVE_CAL -/

/-- With calibration mode off there is nothing to leave. -/
theorem leaveCal_off {s : State} (h : s.clu.staged = none) : leaveCal s = answer .wrongState .nothing s := by
  simp [leaveCal, calibrating_eq_false_iff.2 h]

/-- R167: the staged set gives way to the committed one, and the answer counts the parameters in which they differ. -/
theorem leaveCal_on {s : State} {staged : CalSet} (h : s.clu.staged = some staged) :
    leaveCal s =
      answer .done (.count (changedParams staged s.committed).length)
        (setChanged staged true (withStaged none s)) := by
  simp [leaveCal, State.calibrating, State.changedCount, endCalibration, withStaged, h]

/-- A ready part in calibration mode leaves it. -/
theorem exec_leaveCal_on {s : State} (h : s.ready) (now : Stamp) (ref : Byte) {staged : CalSet}
    (hs : s.clu.staged = some staged) :
    exec (.leaveCal now ref) s =
      .next (replied now ref 0x1D .done (.count (changedParams staged s.committed).length)
        (setChanged staged true (withStaged none s))) :=
  arrive_replied_refreshed h (setChanged_ready (withStaged_ready h none) _ _) (d := .leaveCal) rfl
    (refreshLights_setChanged_queued ..) (leaveCal_on (s := queued now ref .leaveCal s) hs)

/-- Settles O50: the rows of R157 in their order, and R167 by whether calibration mode is on. -/
theorem calibrationIsEnteredAndLeft : Obligations.CalibrationIsEnteredAndLeft := by
  intro s now ref h
  refine ⟨?_, fun hoff => ?_, fun staged hon => exec_leaveCal_on h now ref hon⟩
  · simp only [ne_eq, ite_not]
    split_ifs with hr hm hc hp hv
    · exact exec_enterCal_done h now ref hr hm hc hp hv
    · exact enterCal_refused h (enterCal_busy (s := queued now ref _ s) hr hm hc (.inr hv))
    · exact enterCal_refused h (enterCal_busy (s := queued now ref _ s) hr hm hc (.inl hp))
    · exact enterCal_refused h (enterCal_switch_open (s := queued now ref _ s) hr hm hc)
    · exact enterCal_refused h (enterCal_on (s := queued now ref _ s) hr hm)
    · exact enterCal_refused h (enterCal_not_run (s := queued now ref _ s) hr)
  · exact arrive_replied h h (d := .leaveCal) rfl (leaveCal_off (s := queued now ref _ s) hoff)

/-! ## READ_PARAM -/

theorem selectionOf_one : selectionOf 1 = some true := rfl

theorem selectionOf_two : selectionOf 2 = some false := rfl

/-- STAGED is 1 and COMMITTED is 2; another selection is out of range. -/
theorem selectionOf_eq_none {selection : Byte} (h1 : selection ≠ 1) (h2 : selection ≠ 2) : selectionOf selection = none := by
  simp only [selectionOf, firstOrSecond, beq_iff_eq, h1, h2, if_false]

theorem paramReply_off {s : State} (p : ParamId) (value : Int) (h : s.clu.staged = none) :
    paramReply p value s = .paramRead value none none s.stc.store.calibration.count := by
  simp [paramReply, calibrating_eq_false_iff.2 h, h]

/-- In calibration mode the reply compares the staged value with the committed one and counts the changed parameters. -/
theorem paramReply_on {s : State} {staged : CalSet} (p : ParamId) (value : Int) (h : s.clu.staged = some staged) :
    paramReply p value s =
      .paramRead value (some (decide (staged.get p ≠ s.committed.get p)))
        (some (changedParams staged s.committed).length) s.stc.store.calibration.count := by
  simp [paramReply, State.calibrating, State.changedCount, h, bne, beq_eq_decide]

/-- READ_PARAM of an identifier or a selection out of range (R160). -/
theorem readParam_out_of_range {s : State} {identifier place selection : Byte}
    (h : paramOf identifier place = none ∨ selection ≠ 1 ∧ selection ≠ 2) :
    readParam identifier place selection s = answer .badValue .nothing s := by
  obtain hp | ⟨h1, h2⟩ := h
  · simp [readParam, hp]
  · simp [readParam, selectionOf_eq_none h1 h2]

section
variable {s : State} {identifier place : Byte} {p : ParamId}

/-- No staged set is kept while calibration mode is off. -/
theorem readParam_staged_off (hp : paramOf identifier place = some p) (h : s.clu.staged = none) :
    readParam identifier place 1 s = answer .wrongState .nothing s := by
  simp only [readParam, hp, selectionOf_one, h]

theorem readParam_staged_on {staged : CalSet} (hp : paramOf identifier place = some p) (h : s.clu.staged = some staged) :
    readParam identifier place 1 s = answer .done (paramReply p (staged.get p) s) s := by
  simp only [readParam, hp, selectionOf_one, h]

theorem readParam_committed_damaged (hp : paramOf identifier place = some p) (h : s.stc.damaged.calibration = true) :
    readParam identifier place 2 s = answer .noCalibration .nothing s := by
  simp only [readParam, hp, selectionOf_two, State.calibrationDamaged, h, if_true]

theorem readParam_committed (hp : paramOf identifier place = some p) (h : s.stc.damaged.calibration = false) :
    readParam identifier place 2 s = answer .done (paramReply p (s.committed.get p) s) s := by
  simp only [readParam, hp, selectionOf_two, State.calibrationDamaged, h, Bool.false_eq_true, if_false]

end

/-- READ_PARAM on a ready part, from what its owner answers. -/
theorem readParam_replied {s : State} (h : s.ready) {now : Stamp} {ref identifier place selection : Byte} {st : Status}
    {r : Result}
    (hrun : readParam identifier place selection (queued now ref (.readParam identifier place selection) s) =
      answer st r (queued now ref (.readParam identifier place selection) s)) :
    exec (.readParam now ref identifier place selection) s = .next (replied now ref 0x1B st r s) :=
  arrive_replied h h rfl hrun

/-! ## READ_TRAIL -/

theorem readTrail_damaged {s : State} (start : BitVec 32) (h : s.stc.damaged.calibration = true) :
    readTrail start s = answer .noCalibration .nothing s := if_pos h

/-- The entries of the trail from a sequence number on (R171). -/
def State.trailFrom (s : State) (start : BitVec 32) : List TrailEntry :=
  s.stc.store.calibration.trail.filter fun e => decide (start.toNat ≤ e.sequence)

theorem readTrail_done {s : State} (start : BitVec 32) (h : s.stc.damaged.calibration = false) :
    readTrail start s =
      answer .done
        (.trail ((s.trailFrom start).take 8) (s.stc.store.calibration.trail.head?.map fun e => e.sequence)
          s.stc.store.calibration.newest s.stc.store.calibration.mark (decide (8 < (s.trailFrom start).length))) s :=
  if_neg (by simp [State.calibrationDamaged, h])

/-- READ_TRAIL on a ready part, from what its owner answers. -/
theorem readTrail_replied {s : State} (h : s.ready) {now : Stamp} {ref : Byte} {start : BitVec 32} {st : Status} {r : Result}
    (hrun : readTrail start (queued now ref (.readTrail start) s) = answer st r (queued now ref (.readTrail start) s)) :
    exec (.readTrail now ref start) s = .next (replied now ref 0x1E st r s) :=
  arrive_replied h h rfl hrun

/-- Settles O53: R160 by the selected set and calibration mode, R171 by the mark of the calibration area. -/
theorem calibrationIsRead : Obligations.CalibrationIsRead := by
  constructor
  · intro s now ref identifier place selection h
    refine ⟨fun hout => readParam_replied h (readParam_out_of_range hout), ?_, ?_, ?_, ?_, ?_⟩
    · rintro p hp rfl hoff
      exact readParam_replied h (readParam_staged_off (s := queued now ref _ s) hp hoff)
    · rintro p staged hp rfl hon
      rw [← paramReply_on p _ hon]
      exact readParam_replied h (readParam_staged_on (s := queued now ref _ s) hp hon)
    · rintro p hp rfl hd
      exact readParam_replied h (readParam_committed_damaged (s := queued now ref _ s) hp hd)
    · rintro p hp rfl hd hoff
      rw [← paramReply_off p _ hoff]
      exact readParam_replied h (readParam_committed (s := queued now ref _ s) hp hd)
    · rintro p staged hp rfl hd hon
      rw [← paramReply_on p _ hon]
      exact readParam_replied h (readParam_committed (s := queued now ref _ s) hp hd)
  · intro s now ref first h
    exact ⟨fun hd => readTrail_replied h (readTrail_damaged (s := queued now ref _ s) first hd),
      fun hd => readTrail_replied h (readTrail_done (s := queued now ref _ s) first hd)⟩

end Sys2Proof.Machine
end

section
/-! SUPPORT. The opening and the abandonment of an audit session (R177, R190): each row of OPEN_AUDIT as its owner answers it, the
session record that a ready part then holds, and ABORT_AUDIT by whether a session is open. -/

namespace Sys2Proof.Machine

/-! ## The session while a directive is judged -/

/-- The audit session plays no part in whether a directive is judged as it arrives. -/
theorem setSession_ready {s : State} (h : s.ready) (session : Option Session) : (setSession session s).ready := h

/-- The outputs follow a session that is replaced while a directive is judged as they follow one replaced before it arrived. -/
theorem refreshLights_setSession_queued (session : Option Session) (now : Stamp) (ref : Byte) (d : Directive) (s : State) :
    refreshLights (setSession session (queued now ref d s)) = queued now ref d (setSession session s) := rfl

/-! ## OPEN_AUDIT -/

/-- The session that an audit begins with: no points, no check, and the calendar's time when it is set (R177). -/
def State.openingSession (s : State) : Session :=
  { opening := if s.cck.isSet = true then some s.cck.time else none, points := [], check := none }

/-- What the DONE of R177 carries: the opening time, the calibration count, the reason set and the trail entries past the mark. -/
def State.auditOpening (s : State) : Result :=
  .auditOpened s.openingSession.opening s.stc.store.calibration.count s.reasonSet s.unaudited

section
variable {s : State}

/-- Row 1 of R177. -/
theorem openAudit_not_run (h : s.rnc.runState ≠ .run) : openAudit s = answer .wrongState .nothing s :=
  if_pos (by simpa using h)

/-- The other rows of R177: in RUN, OPEN_AUDIT is judged by the session, calibration mode and the passage, in that order. -/
theorem openAudit_run (hr : s.rnc.runState = .run) :
    openAudit s =
      if s.vfu.session ≠ none then answer .wrongState .nothing s
      else if s.clu.staged ≠ none then answer .busy .nothing s
      else if s.psu.passage ≠ none then answer .busy .nothing s
      else answer .done s.auditOpening (setSession (some s.openingSession) s) := by
  simp [openAudit, hr, State.calibrating, State.idle, Option.isSome_iff_ne_none, State.auditOpening, State.openingSession]

/-- Row 2 of R177. -/
theorem openAudit_open (hr : s.rnc.runState = .run) (hv : s.vfu.session ≠ none) :
    openAudit s = answer .wrongState .nothing s := by
  rw [openAudit_run hr, if_pos hv]

/-- Rows 3 and 4 of R177. -/
theorem openAudit_busy (hr : s.rnc.runState = .run) (hv : s.vfu.session = none)
    (h : s.clu.staged ≠ none ∨ s.psu.passage ≠ none) : openAudit s = answer .busy .nothing s := by
  rw [openAudit_run hr, if_neg (not_not.2 hv), ← ite_or, if_pos h]

/-- Row 5 of R177. -/
theorem openAudit_done (hr : s.rnc.runState = .run) (hv : s.vfu.session = none) (hm : s.clu.staged = none)
    (hp : s.psu.passage = none) :
    openAudit s = answer .done s.auditOpening (setSession (some s.openingSession) s) := by
  rw [openAudit_run hr, if_neg (not_not.2 hv), if_neg (not_not.2 hm), if_neg (not_not.2 hp)]

end

/-- A ready part refuses OPEN_AUDIT and is otherwise as it was, from what its owner answers. -/
theorem openAudit_refused {s : State} (h : s.ready) {now : Stamp} {ref : Byte} {flaw : Status}
    (hrun : openAudit (queued now ref .openAudit s) = answer flaw .nothing (queued now ref .openAudit s)) :
    exec (.openAudit now ref) s = .next (replied now ref 0x1F flaw .nothing s) :=
  arrive_replied h h (d := .openAudit) rfl hrun

/-- Row 5 of R177 with the session it makes: a ready part opens an audit. -/
theorem exec_openAudit_done {s : State} (h : s.ready) (now : Stamp) (ref : Byte) (hr : s.rnc.runState = .run)
    (hv : s.vfu.session = none) (hm : s.clu.staged = none) (hp : s.psu.passage = none) :
    exec (.openAudit now ref) s =
      .next (replied now ref 0x1F .done s.auditOpening (setSession (some s.openingSession) s)) :=
  arrive_replied_refreshed h (setSession_ready h _) (d := .openAudit) rfl (refreshLights_setSession_queued ..)
    (openAudit_done (s := queued now ref .openAudit s) hr hv hm hp)

/-! ## ABORT_AUDIT -/

/-- Without a session there is nothing to abort. -/
theorem abortAudit_closed {s : State} (h : s.vfu.session = none) : abortAudit s = answer .wrongState .nothing s := by
  rw [abortAudit, h]

/-- R190: the session goes with its points, and the answer counts them. -/
theorem abortAudit_open {s : State} {session : Session} (h : s.vfu.session = some session) :
    abortAudit s = answer .done (.count session.points.length) (setSession none s) := by
  rw [abortAudit, h]

/-- A ready part discards its open session and keeps everything else. -/
theorem exec_abortAudit_open {s : State} (h : s.ready) (now : Stamp) (ref : Byte) {session : Session}
    (hv : s.vfu.session = some session) :
    exec (.abortAudit now ref) s =
      .next (replied now ref 0x23 .done (.count session.points.length) (setSession none s)) :=
  arrive_replied_refreshed h (setSession_ready h none) (d := .abortAudit) rfl (refreshLights_setSession_queued ..)
    (abortAudit_open (s := queued now ref .abortAudit s) hv)

/-- Settles O55: the rows of R177 in their order, and R190 by whether a session is open. -/
theorem auditIsOpenedAndAborted : Obligations.AuditIsOpenedAndAborted := by
  intro s now ref h opening area
  refine ⟨?_, fun hv => ?_, fun session hv => exec_abortAudit_open h now ref hv⟩
  · simp only [ne_eq, ite_not]
    split_ifs with hr hv hm hp
    · exact exec_openAudit_done h now ref hr hv hm hp
    · exact openAudit_refused h (openAudit_busy (s := queued now ref _ s) hr hv (.inr hp))
    · exact openAudit_refused h (openAudit_busy (s := queued now ref _ s) hr hv (.inl hm))
    · exact openAudit_refused h (openAudit_open (s := queued now ref _ s) hr hv)
    · exact openAudit_refused h (openAudit_not_run (s := queued now ref _ s) hr)
  · exact arrive_replied h h (d := .abortAudit) rfl (abortAudit_closed (s := queued now ref _ s) hv)

end Sys2Proof.Machine
end

section
/-! SUPPORT. What the operations of the Passage Unit, the Axle Monitor, the Ticket Unit and the Verification Unit can write at
all: frames, the passage, the axle list, the update queue, the fault flag, the volatile part of the Verification Unit and the
counter of free orders. A property that none of these writes can break survives every such operation. -/

namespace Sys2Proof.Machine

/-- A property that a write of the update queue does not break survives an update handed over. -/
theorem handUpdate_survives {P : State → Prop} (hq : ∀ x s, P s → P { s with stc := { s.stc with queue := x } }) {u : Update}
    {s : State} (h : P s) : P (handUpdate u s) := by
  simp only [handUpdate]
  split
  · exact h
  · exact hq _ _ h

/-- A property that no offered frame, no update handed over or marked and no write of the passage, the axles, the Verification Unit
or the counter of free orders breaks. -/
structure Silent (P : State → Prop) : Prop where
  frame : ∀ f s, P s → P (offer f s)
  psu : ∀ x s, P s → P { s with psu := x }
  axm : ∀ x s, P s → P { s with axm := x }
  vfu : ∀ x s, P s → P { s with vfu := x }
  hand : ∀ u s, P s → P (handUpdate u s)
  mark : ∀ n s, P s → P (markRunThrough n s)
  free : ∀ n s, P s → P { s with freeCount := n }

variable {P : State → Prop} (hP : Silent P) {s : State} (h : P s)
include hP h

/-! ## Frames and deliveries -/

theorem silent_raise {e : Event} : P (raise e s) := hP.frame _ _ h

theorem silent_report {b a : Option PassageState} {c : PassageCause} {st : Option Stamp} {p : Passage} :
    P (report b a c st p s) := hP.frame _ _ h

theorem silent_handUpdate {u : Update} : P (handUpdate u s) := hP.hand _ _ h

theorem silent_setPassage {p : Passage} : P (setPassage p s) := hP.psu _ _ h

theorem silent_stopCaptureTimer : P (stopCaptureTimer s) := hP.psu _ _ h

theorem silent_setSession {x : Option Session} : P (setSession x s) := hP.vfu _ _ h

/-! ## The axles -/

theorem silent_startChecking : P (startChecking s) := hP.axm _ _ h

theorem silent_endChecking : P (endChecking s) := hP.axm _ _ h

theorem silent_clearAxles : P (clearAxles s) := hP.axm _ _ h

theorem silent_setPairing {p : Option Pairing} : P (setPairing p s) := hP.axm _ _ h

theorem silent_setAxleQueue {q : List PendingAxle} : P (setAxleQueue q s) := hP.axm _ _ h

theorem silent_setPad {pad : PadState} {dwell : Option Dwell} : P (setPad pad dwell s) := hP.axm _ _ h

theorem silent_detachDwell : P (detachDwell s) := hP.axm _ _ h

theorem silent_keepResult {r : Option AxleResult} : P (keepResult r s) := hP.axm _ _ h

theorem silent_stripFault {c : StripCause} {t : Stamp} : P (stripFault c t s) := silent_raise hP h

theorem silent_closeAxle {e : PendingAxle} {load : Option Int} {n : Nat} {a b c : Bool} : P (closeAxle e load n a b c s) := by
  simp only [closeAxle]
  split
  · exact hP.frame _ _ (hP.axm _ _ h)
  · exact hP.frame _ _ (hP.axm _ _ h)

theorem silent_makeAxleRoom : P (makeAxleRoom s) := by
  simp only [makeAxleRoom]
  split
  · exact h
  · split
    · refine silent_closeAxle hP (silent_setAxleQueue hP ?_)
      split
      · exact silent_detachDwell hP h
      · exact h
    · exact h

theorem silent_joinForward {t : Stamp} {v : Option Nat} : P (joinForward t v s) := hP.axm _ _ (silent_makeAxleRoom hP h)

theorem silent_reverseCrossing : P (reverseCrossing s) := by
  simp only [reverseCrossing]
  split
  · exact hP.frame _ _ (silent_detachDwell hP (hP.axm _ _ h))
  · exact silent_detachDwell hP (hP.axm _ _ h)

theorem silent_expirePairing {p : Pairing} : P (expirePairing p s) := by
  simp only [expirePairing]
  split
  · exact silent_stripFault hP (silent_joinForward hP (silent_setPairing hP h))
  · exact silent_stripFault hP (silent_setPairing hP h)

theorem silent_stripAPress {t : Stamp} : P (stripAPress t s) := by
  simp only [stripAPress]
  split
  · exact silent_setPairing hP h
  · exact silent_setPairing hP (silent_stripFault hP (silent_joinForward hP h))
  · split
    · split
      · exact silent_stripFault hP (silent_joinForward hP (silent_setPairing hP h))
      · exact silent_reverseCrossing hP (silent_setPairing hP h)
    · exact silent_setPairing hP (silent_expirePairing hP h)

theorem silent_stripBPress {t : Stamp} : P (stripBPress t s) := by
  simp only [stripBPress]
  split
  · exact silent_setPairing hP h
  · split
    · split
      · exact silent_stripFault hP (silent_joinForward hP (silent_setPairing hP h))
      · exact silent_joinForward hP (silent_setPairing hP h)
    · exact silent_setPairing hP (silent_expirePairing hP h)
  · exact silent_setPairing hP (silent_stripFault hP h)

theorem silent_activatePad {g : Int} : P (activatePad g s) := by
  simp only [activatePad]
  split
  · exact silent_setPad hP h
  · exact silent_setPad hP (silent_setAxleQueue hP h)

theorem silent_releasePad : P (releasePad s) := by
  simp only [releasePad]
  have hfreed : P (setPad .inactive none s) := silent_setPad hP h
  split
  · split
    · exact hfreed
    · split
      · exact silent_closeAxle hP (silent_setAxleQueue hP hfreed)
      · split
        · exact silent_setAxleQueue hP hfreed
        · exact silent_closeAxle hP (silent_setAxleQueue hP hfreed)
  · exact hfreed

theorem silent_padResult {g : Option Int} : P (padResult g s) := by
  cases g with
  | none => exact h
  | some g =>
    simp only [padResult]
    split
    · exact h
    · split
      · split
        · exact silent_setPad hP h
        · exact silent_setPad hP h
      · split
        · exact silent_activatePad hP h
        · exact h
      · split
        · exact silent_releasePad hP h
        · exact silent_setPad hP h

theorem silent_closeResting : P (closeResting s) := by
  simp only [closeResting]
  split
  · split
    · split
      · exact silent_closeAxle hP (silent_setAxleQueue hP h)
      · exact silent_closeAxle hP (silent_setAxleQueue hP h)
    · exact h
  · exact h

omit h in
theorem silent_closeRest : ∀ (q : List PendingAxle) {s : State}, P s → P (closeRest q s)
  | [], _, h => h
  | _ :: rest, _, h => silent_closeRest rest (silent_closeAxle hP (silent_setAxleQueue hP h))

theorem silent_captureAxles : P (captureAxles s) := by
  simp only [captureAxles]
  split
  · refine hP.axm _ _ (silent_closeRest hP _ (silent_closeResting hP ?_))
    split
    · exact silent_joinForward hP (silent_setPairing hP h)
    · exact silent_setPairing hP h
  · exact h

/-! ## The passage -/

theorem silent_issueTicket {p : Passage} : P (issueTicket p s) := by
  simp only [issueTicket]
  split
  · exact silent_report hP (silent_setPassage hP (silent_handUpdate hP h))
  · exact h

theorem silent_markRunThrough {n : BitVec 16} : P (markRunThrough n s) := hP.mark _ _ h

theorem silent_endPassage {c : PassageCause} {t : Option Stamp} {p : Passage} : P (endPassage c t p s) :=
  silent_clearAxles hP (silent_report hP (hP.psu _ _ h))

theorem silent_openPassage {i : Bool} {t : Option Stamp} : P (openPassage i t s) := by
  have hreported : ∀ x p, P (report none (some .arriving) .entered t p { s with psu := x }) :=
    fun x _ => silent_report hP (hP.psu x _ h)
  simp only [openPassage]
  split
  · exact silent_startChecking hP (hreported _ _)
  · exact hreported _ _

theorem silent_passageLeft {t : Option Stamp} {p : Passage} : P (passageLeft t p s) := by
  simp only [passageLeft]
  split
  · exact silent_openPassage hP (silent_endPassage hP h)
  · exact silent_endPassage hP h

theorem silent_endCheckingFrom {x : PassageState} : P (endCheckingFrom x s) := by
  simp only [endCheckingFrom]
  split
  · exact silent_endChecking hP h
  · exact h

theorem silent_toLeaving {c : PassageCause} {t : Option Stamp} {p : Passage} : P (toLeaving c t p s) := by
  have hreported : ∀ p' b a, P (report b a c t p' (setPassage p' (endCheckingFrom p.state (stopCaptureTimer s)))) :=
    fun _ _ _ => silent_report hP (silent_setPassage hP (silent_endCheckingFrom hP (silent_stopCaptureTimer hP h)))
  simp only [toLeaving]
  split
  · exact silent_passageLeft hP (hreported _ _ _)
  · exact hreported _ _ _

theorem silent_judgeClearing {t : Option Stamp} : P (judgeClearing t s) := by
  simp only [judgeClearing]
  split
  · split
    · exact silent_endPassage hP h
    · exact h
  · exact h

theorem silent_toClearing {c : PassageCause} {t : Option Stamp} {p : Passage} : P (toClearing c t p s) :=
  silent_judgeClearing hP
    (silent_report hP (silent_setPassage hP (silent_endCheckingFrom hP (silent_stopCaptureTimer hP h))))

theorem silent_moveOnBridge {t : Option Stamp} {p : Passage} : P (moveOnBridge t p s) := by
  have hreported : ∀ p', P (report (some .arriving) (some .onBridge) .on t p' (setPassage p' s)) :=
    fun _ => silent_report hP (silent_setPassage hP h)
  simp only [moveOnBridge]
  split
  · split
    · exact hreported _
    · exact hP.psu _ _ (hreported _)
  · exact silent_toClearing hP h

theorem silent_entryChange {occupied green : Bool} {t : Stamp} : P (entryChange occupied green t s) := by
  simp only [entryChange]
  split
  · split
    · exact silent_openPassage hP h
    · exact h
  · split
    · split
      · exact silent_moveOnBridge hP h
      · exact h
    · exact silent_judgeClearing hP h
    · exact h

theorem silent_exitOccupied {t : Stamp} {p : Passage} : P (exitOccupied t p s) := by
  have hraised : P (raiseRunThrough t p s) := silent_raise hP h
  simp only [exitOccupied]
  split
  case h_4 => exact silent_raise hP (silent_markRunThrough hP (silent_setPassage hP h))
  case h_5 =>
    split
    · exact silent_toLeaving hP h
    · exact silent_toLeaving hP hraised
  case h_6 => exact h
  case h_7 => exact silent_judgeClearing hP h
  all_goals
    split
    · exact h
    · exact silent_toLeaving hP hraised

theorem silent_exitCleared {t : Stamp} {p : Passage} : P (exitCleared t p s) := by
  simp only [exitCleared]
  split
  · split
    · exact silent_toClearing hP h
    · split
      · exact silent_moveOnBridge hP h
      · exact h
  · split
    · exact silent_toClearing hP h
    · exact h
  · exact silent_passageLeft hP h
  · exact silent_judgeClearing hP h
  · exact h

theorem silent_exitChange {occupied : Bool} {t : Stamp} : P (exitChange occupied t s) := by
  simp only [exitChange]
  split
  · exact h
  · split
    · exact silent_exitOccupied hP h
    · exact silent_exitCleared hP h

theorem silent_judgeAfterRemoval {p : Passage} : P (judgeAfterRemoval p s) := by
  simp only [judgeAfterRemoval]
  split
  · exact silent_issueTicket hP h
  · exact silent_report hP (silent_setPassage hP h)
  · exact silent_report hP (silent_setPassage hP (silent_report hP (silent_setPassage hP h)))

theorem silent_waitEnded {w : HoldReason} : P (waitEnded w s) := by
  simp only [waitEnded]
  split
  · split
    · exact silent_judgeAfterRemoval hP h
    · exact h
  · exact h

theorem silent_capture {r : WeightRecord} {p : Passage} : P (capture r p s) := by
  have hjudged : ∀ p' q, P (keepResult q (setPassage p' (captureAxles (stopCaptureTimer (setPassage
      { p with
        state := .captured
        capture := some
          { weight := r.weight, scan := r.scan, stamp := s.ylu.timebase, time := s.cck.time, calCount := r.calCount }
        holds := dropHold .unstable p.holds } s))))) := fun _ _ =>
    silent_keepResult hP (silent_setPassage hP
      (silent_captureAxles hP (silent_stopCaptureTimer hP (silent_setPassage hP h))))
  simp only [capture]
  split
  · exact silent_report hP (silent_issueTicket hP (hjudged _ _))
  · exact silent_report hP (silent_setPassage hP (hjudged _ _))
  · exact silent_report hP (hjudged _ _)

theorem silent_recordTaken {r : WeightRecord} : P (recordTaken r s) := by
  have hmoved : ∀ p : Passage, P (if r.stable && !s.heavy r.weight && s.entryClear && s.exitClear then toClearing .vanished none p s
      else if p.state == .onBridge && !p.intruder && (captureFailures s r).isEmpty then capture r p s else s) := by
    intro p
    split
    · exact silent_toClearing hP h
    · split
      · exact silent_capture hP h
      · exact h
  simp only [recordTaken]
  split
  · exact h
  · split
    · exact hmoved _
    · exact hmoved _
    · exact silent_judgeClearing hP h
    · exact h

theorem silent_captureTimedOut {p : Passage} : P (captureTimedOut p s) :=
  silent_report hP (silent_raise hP (silent_stopCaptureTimer hP (silent_setPassage hP h)))

theorem silent_captureTimer : P (captureTimer s) := by
  simp only [captureTimer]
  split
  · split
    · exact silent_captureTimedOut hP h
    · exact h
  · exact h

theorem silent_pairingTimer : P (pairingTimer s) := by
  simp only [pairingTimer]
  split
  · split
    · exact silent_expirePairing hP h
    · exact h
  · exact h

theorem silent_discardPassage : P (discardPassage s) := by
  simp only [discardPassage]
  split
  · exact silent_endPassage hP h
  · exact hP.psu _ _ h

theorem silent_issueCompleted {x : Option (BitVec 16)} {n : BitVec 32} : P (issueCompleted x n s) := by
  simp only [issueCompleted]
  split
  · split
    · have hposted : ∀ p', P (report (some .issuing) (some .done) .posted none p' (setPassage p' s)) :=
        fun _ => silent_report hP (silent_setPassage hP h)
      split
      · exact silent_toLeaving hP (hposted _)
      · exact hposted _
    · exact h
  · exact h

theorem silent_issueFailed {x : Option (BitVec 16)} : P (issueFailed x s) := by
  simp only [issueFailed]
  split
  · split
    · split
      · exact silent_toLeaving hP h
      · exact silent_report hP (silent_setPassage hP h)
    · exact h
  · exact h

/-! ## The trade status -/

theorem silent_statusChange {c : TradeCause} {b : Bool} : P (statusChange c b s) := by
  simp only [statusChange]
  split
  · exact h
  · split
    · exact silent_waitEnded hP (silent_raise hP h)
    · exact silent_raise hP h

theorem silent_zeroLimitNotice : P (zeroLimitNotice s) := by
  simp only [zeroLimitNotice]
  split
  · exact h
  · exact silent_statusChange hP (silent_handUpdate hP (hP.vfu _ _ h))

/-! ## A change of the pad designation -/

theorem silent_axlesUnder {old : CalSet} : P (axlesUnder old s) := by
  simp only [axlesUnder]
  split
  · exact silent_startChecking hP h
  · split
    · exact silent_endChecking hP h
    · exact h

/-! ## Deliveries -/

theorem silent_inAnyOrder {shows : Bool} {acts : List (State → State)} (ha : ∀ act ∈ acts, ∀ s, P s → P (act s)) :
    P (inAnyOrder shows acts s) := inAnyOrder_keeps (fun _ n hs => hP.free n _ hs) shows acts s ha h

end Sys2Proof.Machine
end

section
/-! SUPPORT. The work of a scan's completion (R10, R11, R23, R183): a property that the handoff's own writes do not break survives
it, where each write of a deck keeps the zeros within the limit of the set in use (R39). -/

namespace Sys2Proof.Machine

/-! ## The zeros of the decks -/

/-- Each deck's working zero lies within the limit of a set (R39). -/
def decksWithin (c : CalSet) (w : Wge) : Prop := ∀ i d, i < 4 → w.deck i = some d → d.zeroWithin c

/-- Each deck's working zero lies within the limit of the set in use (R39). -/
def State.zerosWithin (s : State) : Prop := decksWithin s.setInUse s.wge

/-- A deck that has no initial zero is within every limit. -/
theorem zeroWithin_of_none {c : CalSet} {d : Deck} (h : d.initialZero = none) : d.zeroWithin c := by
  simp [Deck.zeroWithin, h]

/-- What leaves both zeros of a deck alone leaves it within the limit. -/
theorem zeroWithin_congr {c : CalSet} {d d' : Deck} (hz : d'.zero = d.zero) (hi : d'.initialZero = d.initialZero)
    (h : d.zeroWithin c) : d'.zeroWithin c := by
  simpa [Deck.zeroWithin, hz, hi] using h

theorem loadZero_zeroWithin {c : CalSet} {z : Int} {idle : Bool} {d : Deck} (h : d.zeroWithin c) :
    (d.loadZero z idle).zeroWithin c := by
  simp only [Deck.loadZero]
  split
  · next hc => exact zeroWithin_of_none (by simpa using (Bool.and_eq_true_iff.1 hc).1)
  · exact h

theorem complete_zeroWithin {c c' : CalSet} {x : Int} {o : Bool} {d : Deck} (h : d.zeroWithin c) :
    (d.complete c' x o).zeroWithin c := zeroWithin_congr rfl rfl h

theorem incomplete_zeroWithin {c : CalSet} {n : Nat} {d : Deck} (h : d.zeroWithin c) : (d.incomplete n).zeroWithin c := by
  simp only [Deck.incomplete]
  split
  · exact zeroWithin_congr rfl rfl h
  · exact zeroWithin_congr rfl rfl h

theorem emptied_zeroWithin {c : CalSet} {d : Deck} (h : d.zeroWithin c) : d.emptied.zeroWithin c := zeroWithin_congr rfl rfl h

theorem withInitialZero_zeroWithin (c : CalSet) (d : Deck) : d.withInitialZero.zeroWithin c := by
  intro initial hi
  cases hi
  simp [Deck.withInitialZero]

/-- R39: a tracking correction is cut so that the zero ends within the limit, wherever it stood. -/
theorem tracked_zeroWithin (c : CalSet) (f : Int) {initial : Int} {d : Deck} (hi : d.initialZero = some initial) :
    (d.tracked c initial f).zeroWithin c := by
  intro x hx
  have hzero : (d.tracked c initial f).zero = d.zero + d.correction c initial f := rfl
  obtain rfl : initial = x := Option.some.inj (hi.symm.trans hx)
  have hmax : c.zeroLimit = (c.maxLoad : Int) * 20 := rfl
  rw [hzero]
  simp only [Deck.correction]
  split_ifs <;> omega

/-- A write of one deck keeps the zeros of all within the limit when the deck written is. -/
theorem decksWithin_set {c : CalSet} {w : Wge} {i : Nat} {d : Deck} (h : decksWithin c w) (hd : i < 4 → d.zeroWithin c) :
    decksWithin c { w with decks := w.decks.set i (some d) } := by
  intro j d' hj hd'
  simp only [Wge.deck, List.getD_eq_getElem?_getD, List.getElem?_set] at hd'
  split at hd'
  · next hij =>
    split at hd'
    · cases hd'
      exact hd (hij ▸ hj)
    · cases hd'
  · exact h j d' hj (by simpa [Wge.deck, List.getD_eq_getElem?_getD] using hd')

/-- A write of all decks keeps the zeros within the limit when it makes of each deck one that is. -/
theorem decksWithin_map {c c' : CalSet} {w : Wge} {f : Deck → Deck} (h : decksWithin c w)
    (hf : ∀ i d, i < 4 → w.deck i = some d → d.zeroWithin c → (f d).zeroWithin c') :
    decksWithin c' { w with decks := w.decks.map (Option.map f) } := by
  intro i d hi hd
  simp only [Wge.deck, List.getD_eq_getElem?_getD, List.getElem?_map] at hd
  cases hslot : w.decks[i]? with
  | none => simp [hslot] at hd
  | some o =>
    cases o with
    | none => simp [hslot] at hd
    | some d0 =>
      have hd0 : w.deck i = some d0 := by simp [Wge.deck, List.getD_eq_getElem?_getD, hslot]
      obtain rfl : f d0 = d := by simpa [hslot] using hd
      exact hf i d0 hi hd0 (h i d0 hi hd0)

/-! ## The work of a handoff -/

/-- The error counts and last error kinds of the node records. -/
def errorFields (nodes : List NodeRecord) : List (Nat × Option CellError) := nodes.map fun r => (r.errorCount, r.lastError)

/-- A node's record rewritten with its errors as they were. -/
theorem setNode_errorFields {c : Clc} {n : Nat} {r : NodeRecord} (he : r.errorCount = (c.node n).errorCount)
    (hl : r.lastError = (c.node n).lastError) : errorFields (c.setNode n r).nodes = errorFields c.nodes := by
  simp only [errorFields, Clc.setNode, List.map_set, he, hl, Clc.node, List.getD_eq_getElem?_getD]
  refine List.ext_getElem? fun i => ?_
  by_cases hi : n - 1 = i
  · subst hi
    rw [List.getElem?_set_self', List.getElem?_map]
    cases c.nodes[n - 1]? <;> rfl
  · rw [List.getElem?_set_ne hi]

/-- The move of a node at the end of a scan keeps its errors. -/
theorem settled_errors (n lostLimit : Nat) (answered : Bool) (r : NodeRecord) :
    (r.settled n lostLimit answered).1.errorCount = r.errorCount ∧ (r.settled n lostLimit answered).1.lastError = r.lastError := by
  simp only [NodeRecord.settled]
  split
  · exact ⟨rfl, rfl⟩
  · split <;> (try split) <;> exact ⟨rfl, rfl⟩

/-- A silent property that survives the writes of a scan's completion: the node records with their errors as they were, a deck within its limit, the run state,
the WEIGHT and SAMPLE slots and the answer of a directive that holds the queue. -/
structure Scanned (P : State → Prop) : Prop extends Silent P where
  nodes : ∀ x s, errorFields x = errorFields s.clc.nodes → P s → P { s with clc := { s.clc with nodes := x } }
  wge : ∀ x s, (s.zerosWithin → decksWithin s.setInUse x) → P s → P { s with wge := x }
  rnc : ∀ x s, P s → P { s with rnc := x }
  weight : ∀ f s, P s → P { s with tli := s.tli.offerWeight f }
  sample : ∀ f s, P s → P { s with tli := s.tli.offerSample f }
  reply : ∀ st r s, P s → P (answerHeld st r s)

variable {P : State → Prop} (hP : Scanned P) {s : State} (h : P s)
include hP h

theorem scanned_setDeck {i : Nat} {d : Deck} (hd : i < 4 → s.zerosWithin → d.zeroWithin s.setInUse) : P (setDeck i d s) :=
  hP.wge _ _ (fun hz => decksWithin_set hz fun hi => hd hi hz) h

theorem scanned_trackDeck {i : Nat} {d : Deck} (hd : i < 4 → s.zerosWithin → d.zeroWithin s.setInUse) : P (trackDeck i d s) := by
  simp only [trackDeck]
  split
  · next initial f hi _ =>
    have htracked := scanned_setDeck hP h (i := i) fun _ _ => tracked_zeroWithin s.setInUse f hi
    split
    · exact silent_zeroLimitNotice hP.toSilent (silent_raise hP.toSilent htracked)
    · exact htracked
  · exact scanned_setDeck hP h fun hi hz => zeroWithin_congr rfl rfl (hd hi hz)

theorem scanned_zeroActions {i : Nat} {d : Deck} (hd : i < 4 → s.zerosWithin → d.zeroWithin s.setInUse) : P (zeroActions i d s) := by
  simp only [zeroActions]
  split
  · exact scanned_setDeck hP h fun _ _ => withInitialZero_zeroWithin _ _
  · split
    · split
      · exact scanned_trackDeck hP h hd
      · exact scanned_setDeck hP h fun hi hz => zeroWithin_congr rfl rfl (hd hi hz)
    · exact scanned_setDeck hP h fun hi hz => zeroWithin_congr rfl rfl (hd hi hz)

theorem scanned_workDeck {slots : List (Nat × Slot)} {i : Nat} : P (workDeck slots i s) := by
  simp only [workDeck]
  split
  · exact h
  · next d hd =>
    have hloaded : i < 4 → s.zerosWithin → (d.loadZero (s.setInUse.deck i).zeroCal s.idle).zeroWithin s.setInUse :=
      fun hi hz => loadZero_zeroWithin (hz i d hi hd)
    split
    · split
      · exact scanned_zeroActions hP (silent_raise hP.toSilent h) fun hi hz => complete_zeroWithin (hloaded hi hz)
      · exact scanned_zeroActions hP h fun hi hz => complete_zeroWithin (hloaded hi hz)
    · split
      · exact scanned_setDeck hP (silent_raise hP.toSilent h) fun hi hz => incomplete_zeroWithin (hloaded hi hz)
      · exact scanned_setDeck hP h fun hi hz => incomplete_zeroWithin (hloaded hi hz)

omit h in
theorem scanned_workDecks {slots : List (Nat × Slot)} : ∀ (is : List Nat) {s : State}, P s →
    P (is.foldl (fun s i => workDeck slots i s) s)
  | [], _, h => h
  | _ :: is, _, h => scanned_workDecks is (scanned_workDeck hP h)

theorem scanned_countStream : P (countStream s) := hP.wge _ _ (fun hz => hz) h

theorem scanned_offerRecord {r : WeightRecord} : P (offerRecord r s) := hP.weight _ _ h

theorem scanned_setRunState {x : RunState} : P (setRunState x s) := silent_raise hP.toSilent (hP.rnc _ _ h)

theorem scanned_countWarmup : P (countWarmup s) := by
  simp only [countWarmup]
  split
  · split
    · exact scanned_setRunState hP (hP.rnc _ _ h)
    · exact hP.rnc _ _ h
  · exact h

theorem scanned_publishRecord {r : WeightRecord} {pad : Option Int} : P (publishRecord r pad s) := by
  have hcounted : P (countStream { s with wge := { s.wge with latest := some r } }) :=
    scanned_countStream hP (hP.wge { s.wge with latest := some r } _ (fun hz => hz) h)
  refine silent_inAnyOrder hP.toSilent hcounted fun act hact t ht => ?_
  simp only [recordDeliveries, List.mem_append, List.mem_singleton, List.mem_ite_nil_right] at hact
  obtain (rfl | ⟨-, rfl⟩) | ⟨-, rfl⟩ := hact
  · exact silent_recordTaken hP.toSilent ht
  · exact silent_padResult hP.toSilent ht
  · exact scanned_offerRecord hP ht

theorem scanned_workHandoff {n : BitVec 32} {slots : List (Nat × Slot)} : P (workHandoff n slots s) :=
  scanned_countWarmup hP
    (scanned_publishRecord hP (scanned_workDecks hP _ h))

/-! ## The other deliveries of a scan -/

omit h in
theorem scanned_updateNodes : ∀ (slots : List (Nat × Slot)) {s : State}, P s → P (updateNodes slots s)
  | [], _, h => h
  | (n, slot) :: rest, s, h => by
    obtain ⟨hcount, hlast⟩ := settled_errors n s.rnc.site.lostLimit slot.answered (s.clc.node n)
    have hset := hP.nodes _ _ (setNode_errorFields hcount hlast) h
    simp only [updateNodes]
    refine scanned_updateNodes rest ?_
    split
    · exact silent_raise hP.toSilent hset
    · exact hset

theorem scanned_askMode {n : Nat} {m : NodeMode} : P (askMode n m s) :=
  hP.nodes _ _ (setNode_errorFields rfl rfl) h

theorem scanned_judgeCheck {x : Session} {c : ReferenceCheck} : P (judgeCheck x c s) :=
  hP.reply _ _ _ (silent_setSession hP.toSilent (scanned_askMode hP h))

theorem scanned_referenceCounts {counts : List (Nat × Int)} : P (referenceCounts counts s) := by
  simp only [referenceCounts]
  split
  · split
    · split
      · exact scanned_judgeCheck hP h
      · exact silent_setSession hP.toSilent h
    · exact h
  · exact h

theorem scanned_scanDeliveries {sc : Scan} {s' : State} :
    P (inAnyOrder (scanOrderShows sc s') (scanDeliveries sc s') s) := by
  refine silent_inAnyOrder hP.toSilent h fun act hact t ht => ?_
  simp only [scanDeliveries, List.mem_append, List.mem_cons, List.not_mem_nil, or_false, List.mem_ite_nil_right] at hact
  obtain (rfl | rfl | rfl) | ⟨-, rfl⟩ := hact
  · exact scanned_updateNodes hP _ ht
  · exact scanned_workHandoff hP ht
  · exact scanned_referenceCounts hP ht
  · exact hP.sample _ _ ht

end Sys2Proof.Machine
end

section
/-! SUPPORT. What a command keeps (R39, R195 to R200, R212 to R214): the bounds of the link, the nonvolatile store and the limits of
the zeros, operation by operation, and the four statements that follow for a step. -/

namespace Sys2Proof.Machine

/-! ## The bounds of the link -/

/-- The arbiter's choice establishes the bounds wherever the queues hold what they can: it leaves the transmitter idle only with
nothing to send (R200). -/
theorem choose_fits {t : Tli} (hd : t.directives.length ≤ 4) (ha : t.classA.length ≤ 24) : t.choose.fits := by
  cases hs : t.sending with
  | some f =>
    rw [choose_sending hs]
    exact ⟨hd, ha, by simp [hs]⟩
  | none =>
    simp only [Tli.choose, hs]
    split
    · next f rest hq =>
      rw [hq, List.length_cons] at ha
      exact ⟨hd, show rest.length ≤ 24 by omega, by simp⟩
    · next hq =>
      split
      · exact ⟨hd, by simp [hq], by simp⟩
      · next hw =>
        split
        · exact ⟨hd, by simp [hq], by simp⟩
        · next hm => exact ⟨hd, by simp [hq], fun _ => ⟨hq, hw, hm⟩⟩

/-- Fewer directives in the queue keep the bounds. -/
theorem fits_directives {t : Tli} (h : t.fits) {qs : List Queued} {x : Bool} (hq : qs.length ≤ 4) :
    Tli.fits { t with directives := qs, executing := x } := ⟨hq, h.2⟩

/-- An answer keeps the bounds: its directive leaves the queue before its reply is offered. -/
theorem answer_fits {st : Status} {r : Result} {s : State} (h : s.tli.fits) : (answer st r s).tli.fits := by
  simp only [answer]
  split
  · next q rest hq =>
    refine offer_fits _ (fits_directives h ?_)
    have := h.1
    rw [hq, List.length_cons] at this
    omega
  · exact h

/-! ## What is kept -/

/-- The second state has the first one's store, and the bounds of its link and the limits of its zeros hold where the first one's
do. -/
structure Carries (s t : State) : Prop where
  link : s.tli.fits → t.tli.fits
  store : t.stc.store = s.stc.store
  zero : s.zerosWithin → t.zerosWithin

theorem Carries.trans {s t u : State} (h : Carries s t) (h' : Carries t u) : Carries s u :=
  ⟨fun hl => h'.link (h.link hl), h'.store.trans h.store, fun hz => h'.zero (h.zero hz)⟩

/-- A failed update has set the fault flag, and no update is in flight (R214). -/
def State.failed (s : State) : Prop := s.stc.fault = true ∧ s.stc.queue = []

/-- The same, and where an update has failed the second state holds no update either: only a store check clears the flag. -/
structure Keeps (s t : State) : Prop extends Carries s t where
  failed : s.failed → t.failed

theorem Keeps.refl (s : State) : Keeps s s := ⟨⟨id, rfl, id⟩, id⟩

theorem Keeps.trans {s t u : State} (h : Keeps s t) (h' : Keeps t u) : Keeps s u :=
  ⟨h.toCarries.trans h'.toCarries, fun hf => h'.failed (h.failed hf)⟩

/-- What is kept does not see the other blocks. -/
theorem keeps_others {s t t' : State} (h : Keeps s t) (htli : t'.tli = t.tli) (hstc : t'.stc = t.stc) (hwge : t'.wge = t.wge)
    (hclu : t'.clu = t.clu) : Keeps s t' := by
  refine ⟨⟨htli ▸ h.link, (congrArg Stc.store hstc).trans h.store, fun hz => ?_⟩, fun hf => ?_⟩
  · have hset : t'.setInUse = t.setInUse := by rw [State.setInUse, State.setInUse, State.committed, State.committed, hstc, hclu]
    rw [State.zerosWithin, hset, hwge]
    exact h.zero hz
  · rw [State.failed, hstc]
    exact h.failed hf

theorem keeps_clc {s t : State} {x : Clc} (h : Keeps s t) : Keeps s { t with clc := x } := ⟨⟨h.link, h.store, h.zero⟩, h.failed⟩

theorem keeps_ylu {s t : State} {x : Ylu} (h : Keeps s t) : Keeps s { t with ylu := x } := ⟨⟨h.link, h.store, h.zero⟩, h.failed⟩

theorem keeps_fault {s t : State} (h : Keeps s t) : Keeps s { t with stc := { t.stc with fault := true } } :=
  ⟨⟨h.link, h.store, h.zero⟩, fun hf => ⟨rfl, (h.failed hf).2⟩⟩

theorem keeps_ite {s t u : State} {c : Prop} [Decidable c] (ht : Keeps s t) (hu : Keeps s u) :
    Keeps s (if c then t else u) := by
  split
  · exact ht
  · exact hu

/-- A write of the link that keeps its bounds. -/
theorem keeps_tli {s t : State} {x : Tli} (h : Keeps s t) (hx : t.tli.fits → x.fits) : Keeps s { t with tli := x } :=
  ⟨⟨fun hl => hx (h.link hl), h.store, h.zero⟩, h.failed⟩

theorem keeps_answer {s t : State} {st : Status} {r : Result} (h : Keeps s t) : Keeps s (answer st r t) := by
  rw [answer_eq]
  exact keeps_tli h answer_fits

theorem keeps_answerHeld {s t : State} {st : Status} {r : Result} (h : Keeps s t) : Keeps s (answerHeld st r t) := by
  simp only [answerHeld]
  split
  · exact keeps_answer h
  · exact h

/-- While the fault flag stands no update is handed over (log 19). -/
theorem keeps_handUpdate {s t : State} {u : Update} (h : Keeps s t) : Keeps s (handUpdate u t) := by
  cases hf : t.stc.fault with
  | true => rwa [show handUpdate u t = t from if_pos hf]
  | false =>
    rw [handUpdate_clear u hf]
    exact ⟨⟨h.link, h.store, h.zero⟩, fun hs => absurd (h.failed hs).1 (by rw [hf]; decide)⟩

theorem keeps_marked {s t : State} {n : BitVec 16} (h : Keeps s t) : Keeps s (markRunThrough n t) :=
  ⟨⟨h.link, h.store, h.zero⟩, fun hs => ⟨(h.failed hs).1, by simp only [markRunThrough, (h.failed hs).2]⟩⟩

theorem keeps_silent (s : State) : Silent (Keeps s) where
  frame f _ h := keeps_tli h (offer_fits f)
  psu _ _ h := keeps_others h rfl rfl rfl rfl
  axm _ _ h := keeps_others h rfl rfl rfl rfl
  vfu _ _ h := keeps_others h rfl rfl rfl rfl
  hand _ _ h := keeps_handUpdate h
  mark _ _ h := keeps_marked h
  free _ _ h := keeps_others h rfl rfl rfl rfl

theorem keeps_scanned (s : State) : Scanned (Keeps s) where
  toSilent := keeps_silent s
  nodes _ _ _ h := keeps_others h rfl rfl rfl rfl
  wge _ _ hx h := ⟨⟨h.link, h.store, fun hz => hx (h.zero hz)⟩, h.failed⟩
  rnc _ _ h := keeps_others h rfl rfl rfl rfl
  weight _ _ h := keeps_tli h fun hl => choose_fits hl.1 hl.2.1
  sample _ _ h := keeps_tli h fun hl => choose_fits hl.1 hl.2.1
  reply _ _ _ h := keeps_answerHeld h

theorem keeps_offer {s t : State} {f : Frame} (h : Keeps s t) : Keeps s (offer f t) := (keeps_silent s).frame _ _ h

theorem keeps_raise {s t : State} {e : Event} (h : Keeps s t) : Keeps s (raise e t) := keeps_offer h

theorem keeps_holdQueue {s t : State} (h : Keeps s t) : Keeps s (holdQueue t) := keeps_tli h id

theorem keeps_setClc {s t : State} {c : Clc} (h : Keeps s t) : Keeps s (setClc c t) := keeps_others h rfl rfl rfl rfl

theorem keeps_setRunState {s t : State} {x : RunState} (h : Keeps s t) : Keeps s (setRunState x t) :=
  scanned_setRunState (keeps_scanned s) h

/-! ## Changes of the set in use and of all decks -/

theorem zerosWithin_silent : Silent State.zerosWithin where
  frame _ _ h := h
  psu _ _ h := h
  axm _ _ h := h
  vfu _ _ h := h
  hand _ _ h := handUpdate_survives (fun _ _ h => h) h
  mark _ _ h := h
  free _ _ h := h

/-- Max is the same under a change of the set in use that asks for no reload. -/
theorem maxLoad_of_not_reloads {old new : CalSet} (h : old.reloads new = false) : old.maxLoad = new.maxLoad := by
  simp only [CalSet.reloads, Bool.or_eq_false_iff, bne_eq_false_iff_eq] at h
  exact h.2

/-- A deck under a changed set in use is within the new limit: a change of Max reloads it (R22, R34). -/
theorem deckUnder_zeroWithin {old new : CalSet} {reload : Bool} {i : Nat} {o : Option Deck} {d : Deck}
    (ho : ∀ d0, o = some d0 → d0.zeroWithin old) (hd : deckUnder old new (reload || old.reloads new) i o = some d) :
    d.zeroWithin new := by
  simp only [deckUnder] at hd
  split at hd
  · cases hd
  · split at hd
    · cases hd
      exact zeroWithin_of_none rfl
    · next d0 =>
      cases hd
      split
      · exact zeroWithin_of_none rfl
      · next hr =>
        have hmax := maxLoad_of_not_reloads (show old.reloads new = false by simp_all)
        have hd0 : d0.zeroWithin new := fun x hx => hmax ▸ ho d0 rfl x hx
        split
        · exact emptied_zeroWithin hd0
        · exact hd0

/-- Zeros within the limit of the set that was in use are, after the change, within that of the set now in use. -/
theorem setChanged_zerosWithin {old : CalSet} {reload : Bool} {s : State} (h : decksWithin old s.wge) :
    (setChanged old reload s).zerosWithin := by
  refine silent_axlesUnder zerosWithin_silent fun i d hi hd => ?_
  simp only [weighUnder, Wge.deck, List.getD_eq_getElem?_getD, List.getElem?_mapIdx] at hd
  cases hslot : s.wge.decks[i]? with
  | none => simp [hslot] at hd
  | some o =>
    have ho : ∀ d0, o = some d0 → d0.zeroWithin old := fun d0 hd0 =>
      h i d0 hi (by simp [Wge.deck, List.getD_eq_getElem?_getD, hslot, hd0])
    rw [hslot, Option.map_some, Option.getD_some] at hd
    exact deckUnder_zeroWithin ho hd

/-- A change of the set in use, made together with the change of the Calibration Unit or the store that brings it. -/
theorem keeps_setChanged {s t : State} {reload : Bool} {c : Clu} (h : Keeps s t) :
    Keeps s (setChanged t.setInUse reload { t with clu := c }) := by
  refine ⟨⟨?_, ?_, fun hz => setChanged_zerosWithin (h.zero hz)⟩, ?_⟩
  · rw [setChanged_eq]
    exact h.link
  · rw [setChanged_eq]
    exact h.store
  · rw [setChanged_eq]
    exact h.failed

theorem keeps_endCalibration {s t : State} (h : Keeps s t) : Keeps s (endCalibration t) := by
  simp only [endCalibration]
  split
  · next staged hs =>
    have hin : t.setInUse = staged := by simp [State.setInUse, hs]
    exact hin ▸ keeps_setChanged h
  · next hs =>
    refine ⟨⟨h.link, h.store, fun hz => ?_⟩, h.failed⟩
    have hw := h.zero hz
    rw [State.zerosWithin, State.setInUse, hs] at hw
    rwa [State.zerosWithin, State.setInUse, hs]

theorem keeps_calSwitchOpened {s t : State} (h : Keeps s t) : Keeps s (calSwitchOpened t) :=
  keeps_raise (keeps_endCalibration h)

/-- A mark of the Calibration Unit is no part of the set in use. -/
theorem keeps_openingRecorded {s t : State} {x : Bool} (h : Keeps s t) :
    Keeps s { t with clu := { t.clu with openingRecorded := x } } := ⟨⟨h.link, h.store, h.zero⟩, h.failed⟩

/-- A write of all decks that gives none of them an initial zero, or makes it the working zero. -/
theorem keeps_mapDecks {s t : State} {f : Deck → Deck} (h : Keeps s t)
    (hf : ∀ i d, i < 4 → t.wge.deck i = some d → d.zeroWithin t.setInUse → (f d).zeroWithin t.setInUse) :
    Keeps s { t with wge := { t.wge with decks := t.wge.decks.map (Option.map f) } } :=
  ⟨⟨h.link, h.store, fun hz => decksWithin_map (h.zero hz) hf⟩, h.failed⟩

theorem keeps_reloadDecks {s t : State} (h : Keeps s t) : Keeps s (reloadDecks t) :=
  keeps_mapDecks h fun _ _ _ _ _ => zeroWithin_of_none rfl

theorem keeps_rebaseZeros {s t : State} (h : Keeps s t) : Keeps s (rebaseZeros t) := by
  refine keeps_mapDecks h fun i d _ _ _ initial hi => ?_
  obtain ⟨x, -, rfl⟩ := Option.map_eq_some_iff.1 hi
  simp

/-- After either reset no deck has an initial zero (R50). -/
theorem resetNodes_zerosWithin (s : State) : (resetNodes s).zerosWithin := by
  intro i d hi hd
  simp only [resetNodes, Wge.powerOn, Wge.deck, List.getD_eq_getElem?_getD, List.getElem?_map, List.getElem?_range hi,
    Option.map_some, Option.getD_some] at hd
  split at hd
  · cases hd
  · cases hd
    exact zeroWithin_of_none rfl

/-! ## The Cell Line Controller -/

section
variable {s t : State} (h : Keeps s t)
include h

theorem keeps_pollNode {n k : Nat} : Keeps s (pollNode n k t) := keeps_setClc h

theorem keeps_finishScan {sc : Scan} : Keeps s (finishScan sc t) :=
  scanned_scanDeliveries (keeps_scanned s) (keeps_setClc h)

theorem keeps_beginScan : Keeps s (beginScan t) := by
  simp only [beginScan]
  split
  · exact keeps_finishScan (keeps_setClc h)
  · split
    · exact keeps_finishScan (keeps_setClc h)
    · exact keeps_pollNode (keeps_setClc (keeps_setClc h))

theorem keeps_completeScan {sc : Scan} : Keeps s (completeScan sc t) := by
  simp only [completeScan]
  split
  · exact keeps_beginScan (keeps_finishScan h)
  · exact keeps_finishScan h

theorem keeps_settleNext {sc : Scan} : Keeps s (settleNext sc t) := by
  simp only [settleNext]
  split
  · exact keeps_completeScan h
  · exact keeps_pollNode (keeps_setClc h)

theorem keeps_timerExpired : Keeps s (timerExpired t) := by
  simp only [timerExpired]
  split
  · exact keeps_beginScan h
  · split
    · exact h
    · exact keeps_raise ⟨⟨h.link, h.store, h.zero⟩, h.failed⟩

theorem keeps_scanTimerRuns : Keeps s (scanTimerRuns t) := by
  simp only [scanTimerRuns]
  split
  · split
    · exact keeps_timerExpired (keeps_setClc h)
    · exact h
  · exact h

theorem keeps_pollStrays : Keeps s (pollStrays t) := by
  simp only [pollStrays]
  split
  · exact keeps_setClc h
  · split
    · exact keeps_setClc h
    · exact keeps_pollNode (keeps_setClc h)

theorem keeps_recordReply {a : Attempt} {j : Judgement} : Keeps s (recordReply a j t) := keeps_setClc h

theorem keeps_windowEnded {received : List CellChar} : Keeps s (windowEnded received t) := by
  simp only [windowEnded]
  split
  · exact h
  · split
    · split
      · exact keeps_pollNode (keeps_setClc (keeps_recordReply h))
      · exact keeps_settleNext (keeps_recordReply h)
    · split
      · exact keeps_pollNode (keeps_recordReply h)
      · exact keeps_pollStrays (keeps_recordReply h)

theorem keeps_breakAttempt {received : List CellChar} : Keeps s (breakAttempt received t) := by
  simp only [breakAttempt]
  split
  · exact h
  · split
    · exact keeps_completeScan (keeps_recordReply h)
    · exact keeps_setClc (keeps_recordReply h)

theorem keeps_breakSeen {received : List CellChar} : Keeps s (breakSeen received t) := by
  simp only [breakSeen, lineBroken]
  split
  · exact keeps_breakAttempt (keeps_raise (keeps_clc h))
  · exact h

theorem keeps_markSeen : Keeps s (markSeen t) := by
  simp only [markSeen, lineMended]
  split
  · exact keeps_raise (keeps_clc h)
  · exact h

theorem keeps_nodeReachesLimit {n : Nat} : Keeps s (nodeReachesLimit n t) := by
  simp only [nodeReachesLimit]
  split
  · exact keeps_raise (keeps_setClc h)
  · exact h

theorem keeps_lineTested {back : List (Option CellChar)} : Keeps s (lineTested back t) := by
  simp only [lineTested]
  split
  · exact keeps_answerHeld (keeps_setClc h)
  · exact h

/-! ## The Weighing Engine's own rows -/

theorem keeps_deckPassesLimit {i : Nat} : Keeps s (deckPassesLimit i t) := by
  simp only [deckPassesLimit]
  split
  · next d hd =>
    split
    · exact keeps_raise (scanned_setDeck (keeps_scanned s) h fun hi hz => incomplete_zeroWithin (hz i d hi hd))
    · exact h
  · exact h

theorem keeps_trackRunEnds {i : Nat} : Keeps s (trackRunEnds i t) := by
  simp only [trackRunEnds]
  split
  · next d hd =>
    split
    · exact scanned_trackDeck (keeps_scanned s) h fun hi hz => hz i d hi hd
    · exact h
  · exact h

theorem keeps_offerLatest : Keeps s (offerLatest t) := by
  simp only [offerLatest]
  split
  · split
    · exact scanned_offerRecord (keeps_scanned s) (scanned_countStream (keeps_scanned s) h)
    · exact h
  · exact h

theorem keeps_warmupEnds : Keeps s (warmupEnds t) := by
  simp only [warmupEnds]
  split
  · exact scanned_countWarmup (keeps_scanned s) h
  · exact h

/-! ## The Yard Line Unit -/

theorem keeps_switchOpened : Keeps s (switchOpened t) := by
  simp only [switchOpened]
  split
  · exact h
  · split
    · exact keeps_openingRecorded h
    · exact keeps_calSwitchOpened h

theorem keeps_handOn {i : YardInput} {green : Bool} {c : LevelMark} : Keeps s (handOn i green c t) := by
  have hs := keeps_silent s
  cases i with
  | entryLoop => exact silent_entryChange hs h
  | exitLoop => exact silent_exitChange hs h
  | stripA =>
    simp only [handOn]
    split
    · exact silent_stripAPress hs h
    · exact h
  | stripB =>
    simp only [handOn]
    split
    · exact silent_stripBPress hs h
    · exact h
  | calSwitch =>
    simp only [handOn]
    split
    · exact h
    · exact keeps_switchOpened h

theorem keeps_acceptRipe {i : YardInput} : Keeps s (acceptRipe i t) := by
  simp only [acceptRipe, acceptChange, reportChange]
  split
  · split
    · exact keeps_raise (keeps_handOn (keeps_ylu h))
    · exact keeps_handOn (keeps_ylu h)
  · exact h

theorem keeps_acceptAllRipe : Keeps s (acceptAllRipe t) :=
  keeps_acceptRipe (keeps_acceptRipe (keeps_acceptRipe (keeps_acceptRipe h)))

theorem keeps_settleInput {i : YardInput} : Keeps s (settleInput i t) := by
  simp only [settleInput]
  split
  · split
    · exact keeps_others h rfl rfl rfl rfl
    · exact h
  · exact h

/-! ## The Store Controller -/

theorem keeps_commitFailed : Keeps s (commitFailed t) := by
  simp only [commitFailed]
  split
  · exact keeps_answerHeld (keeps_openingRecorded h)
  · exact keeps_answerHeld (keeps_calSwitchOpened h)

theorem keeps_updateFailed {u : Update} : Keeps s (updateFailed u t) := by
  cases u with
  | ticket => exact silent_issueFailed (keeps_silent s) h
  | certificate => exact keeps_answerHeld h
  | release => exact keeps_answerHeld h
  | purge => exact keeps_answerHeld h
  | commit => exact keeps_commitFailed h
  | reason => exact h

omit h in
theorem keeps_updatesFailed : ∀ (us : List Update) {t : State}, Keeps s t →
    Keeps s (us.foldl (fun s u => updateFailed u s) t)
  | [], _, h => h
  | _ :: us, _, h => keeps_updatesFailed us (keeps_updateFailed h)

theorem keeps_setStoreFault {p : Producer} : Keeps s (setStoreFault p t) :=
  silent_statusChange (keeps_silent s) (keeps_raise (keeps_fault h))

theorem keeps_updatesFail : Keeps s (updatesFail t) := by
  have hcleared : Keeps s { t with stc := { t.stc with queue := [] } } :=
    ⟨⟨h.link, h.store, h.zero⟩, fun hf => ⟨(h.failed hf).1, rfl⟩⟩
  simp only [updatesFail]
  split
  · exact h
  · exact keeps_updatesFailed _ (keeps_setStoreFault hcleared)

theorem keeps_haltGoesOn : Keeps s (haltGoesOn t) := by
  simp only [haltGoesOn]
  split
  · exact keeps_pollStrays h
  · exact h

/-! ## Run Control and power -/

theorem keeps_stopRun : Keeps s (stopRun t) :=
  (keeps_scanned s).rnc _ _ (silent_setSession (keeps_silent s) (keeps_endCalibration (keeps_setClc h)))

theorem keeps_enterHalted : Keeps s (enterHalted t) := keeps_setRunState (silent_discardPassage (keeps_silent s) h)

theorem keeps_haltingEnds : Keeps s (haltingEnds t) := by
  simp only [haltingEnds]
  split
  · exact keeps_answerHeld (keeps_enterHalted h)
  · exact h

theorem keeps_resetNodes : Keeps s (resetNodes t) := ⟨⟨h.link, h.store, fun _ => resetNodes_zerosWithin t⟩, h.failed⟩

/-- RESTART empties the queues and slots and leaves the frame on the line (R203). -/
theorem keeps_restartBlocks : Keeps s (restartBlocks t) := by
  refine ⟨⟨fun _ => ⟨by simp [restartBlocks, resetNodes, Tli.restart], by simp [restartBlocks, resetNodes, Tli.restart],
    fun _ => ⟨rfl, rfl, rfl⟩⟩, h.store, fun _ => resetNodes_zerosWithin _⟩, fun hf => ⟨(h.failed hf).1, ?_⟩⟩
  rw [show (restartBlocks t).stc.queue = t.stc.queue.map (·.orphaned) from rfl, (h.failed hf).2, List.map_nil]

omit h in
theorem carries_raise {e : Event} {u : State} (hu : Carries s u) : Carries s (raise e u) := hu.trans (keeps_raise (Keeps.refl u)).toCarries

theorem carries_checkComplete {found : Areas} : Carries s (checkComplete found t) := by
  have hreset : ∀ x, Carries s (resetNodes { t with stc := { t.stc with damaged := x, fault := areasAny x, queue := [], checking := false } }) :=
    fun _ => ⟨h.link, h.store, fun _ => resetNodes_zerosWithin _⟩
  have hreported : ∀ {b : Bool} {e : Event} {u : State}, Carries s u → Carries s (if b = true then raise e u else u) := fun {b _ _} hu => by
    cases b with
    | true => exact carries_raise hu
    | false => exact hu
  simp only [checkComplete]
  split
  · exact hreported (hreported (hreset _))
  · exact h.toCarries

/-! ## The terminal link -/

theorem keeps_replyTo {ref code : Byte} {st : Status} {r : Result} : Keeps s (replyTo ref code st r t) := keeps_offer h

theorem keeps_enqueue {ref : Byte} {d : Directive} : Keeps s (enqueue ref d t) := by
  simp only [enqueue]
  split
  · exact keeps_replyTo h
  · next hroom =>
    refine keeps_tli h fun hl => ⟨?_, hl.2⟩
    simp only [Config.directiveCapacity] at hroom
    simp only [List.length_append, List.length_singleton]
    omega

theorem keeps_takePayload {payload : List Byte} : Keeps s (takePayload payload t) := by
  simp only [takePayload]
  split
  · exact keeps_replyTo h
  · exact keeps_replyTo h
  · exact keeps_enqueue h

theorem keeps_submit {ref : Byte} {d : Directive} : Keeps s (submit ref d t) := by
  simp only [submit]
  split
  · exact keeps_enqueue h
  · exact keeps_replyTo h

theorem keeps_setFramer {f : Framer} : Keeps s (setFramer f t) := keeps_tli h id

theorem keeps_discardFrame : Keeps s (discardFrame t) := keeps_tli h id

theorem keeps_frameComplete {bytes : List Byte} : Keeps s (frameComplete bytes t) := by
  simp only [frameComplete]
  split
  · exact keeps_discardFrame h
  · split
    · split
      · exact keeps_discardFrame h
      · exact keeps_takePayload (keeps_setFramer h)
    · exact keeps_discardFrame h

theorem keeps_receiveChar {c : LinkChar} : Keeps s (receiveChar c t) := by
  simp only [receiveChar]
  split
  · split
    · exact keeps_setFramer h
    · exact h
  · split
    · exact keeps_discardFrame h
    · split
      · exact h
      · split
        · exact keeps_discardFrame h
        · split
          · exact keeps_frameComplete h
          · exact keeps_setFramer h

omit h in
theorem keeps_receiveChars : ∀ (cs : List LinkChar) {t : State}, Keeps s t → Keeps s (receiveChars cs t)
  | [], _, h => h
  | _ :: cs, _, h => keeps_receiveChars cs (keeps_receiveChar h)

theorem keeps_gapPassed : Keeps s (gapPassed t) := by
  simp only [gapPassed]
  split
  · exact keeps_discardFrame h
  · exact h

theorem keeps_frameSent : Keeps s (frameSent t) := keeps_tli h fun hl => choose_fits hl.1 hl.2.1

end

end Sys2Proof.Machine
end

section
/-! SUPPORT. The directives and the completion of a store update: what they keep of the link, the store and the zeros, and the
statements on every step (R39, R133, R195 to R200, R212 to R214). -/

namespace Sys2Proof.Machine

/-! ## The directives -/

section
variable {s t : State} (h : Keeps s t)
include h

theorem keeps_setVehicles {vs : List Vehicle} : Keeps s (setVehicles vs t) := ⟨⟨h.link, h.store, h.zero⟩, h.failed⟩

theorem keeps_putEntry {v : Vehicle} : Keeps s (putEntry v t) := by
  refine keeps_ite (keeps_answer h) (keeps_ite (keeps_answer h) ?_)
  split
  · exact keeps_answer (keeps_setVehicles h)
  · exact keeps_ite (keeps_answer h) (keeps_answer (keeps_setVehicles h))

theorem keeps_bindPassage {tag : Tag} {k : TransactionKind} {o : Bool} {p : Passage} : Keeps s (bindPassage tag k o p t) := by
  have hs := keeps_silent s
  have hbound : ∀ st r q p', Keeps s (answer st r (keepResult q (setPassage p' t))) := fun _ _ _ _ =>
    keeps_answer (silent_keepResult hs (silent_setPassage hs h))
  simp only [bindPassage]
  split
  · exact silent_issueTicket hs (hbound _ _ _ _)
  · exact silent_report hs (hbound _ _ _ _)
  · exact silent_report hs (silent_setPassage hs (hbound _ _ _ _))

theorem keeps_releaseFrom {r : HoldReason} {p : Passage} : Keeps s (releaseFrom r p t) := by
  have hs := keeps_silent s
  have hfreed : ∀ st r p', Keeps s (answer st r (setPassage p' t)) := fun _ _ _ => keeps_answer (silent_setPassage hs h)
  exact keeps_ite (silent_judgeAfterRemoval hs (hfreed _ _ _)) (silent_report hs (hfreed _ _ _))

theorem keeps_abandon {n : BitVec 16} : Keeps s (abandon n t) := by
  simp only [abandon]
  split
  · exact keeps_answer h
  · split
    · exact keeps_answer h
    · split
      case h_1 | h_2 | h_3 | h_4 => exact keeps_answer h
      all_goals exact silent_toClearing (keeps_silent s) (keeps_answer h)

theorem keeps_writeParam {p : ParamId} {v : Int} {staged : CalSet} (hs : t.clu.staged = some staged) :
    Keeps s (writeParam p v staged t) := by
  have hin : t.setInUse = staged := by simp [State.setInUse, hs]
  exact keeps_answer (hin ▸ keeps_setChanged h)

/-- ENTER_CAL stages the set that is in use already (R158). -/
theorem keeps_stageCommitted (hm : t.calibrating = false) :
    Keeps s { t with clu := { staged := some t.committed, openingRecorded := false } } := by
  refine ⟨⟨h.link, h.store, fun hz => ?_⟩, h.failed⟩
  have hw := h.zero hz
  rwa [State.zerosWithin, State.setInUse, calibrating_eq_false_iff.1 hm] at hw

theorem keeps_start : Keeps s (start t) := by
  simp only [start]
  split
  · exact keeps_answer h
  · split
    · exact keeps_answer h
    · exact keeps_answer (keeps_setRunState ((keeps_scanned s).rnc _ _ (keeps_reloadDecks (keeps_setClc h))))

theorem keeps_halt : Keeps s (halt t) := by
  have hstopped : Keeps s (stopRun t) := keeps_stopRun h
  simp only [halt]
  split
  · exact keeps_answer h
  · exact keeps_answer h
  all_goals
    exact keeps_ite (keeps_answer (keeps_enterHalted (keeps_setClc hstopped)))
      (keeps_haltGoesOn (keeps_holdQueue (keeps_setRunState hstopped)))

theorem keeps_restart : Keeps s (restart t) := by
  have hreset : ∀ ref code st r, Keeps s (replyTo ref code st r (restartBlocks t)) :=
    fun _ _ _ _ => keeps_replyTo (keeps_restartBlocks h)
  simp only [restart]
  split
  · exact h
  · exact keeps_ite (hreset _ _ _ _) (keeps_raise (hreset _ _ _ _))

omit h in
/-- A deck that ZERO_DECK may zero ends within the limit: R36 has judged where its zero would come to lie. -/
theorem zeroed_zeroWithin {i : Nat} {d : Deck} (hflaw : zeroFlaw t i = none) (hd : t.wge.deck i = some d) :
    d.zeroed.zeroWithin t.setInUse := by
  intro initial hi
  simp only [zeroFlaw, hd] at hflaw
  split at hflaw
  · cases hflaw
  · split at hflaw
    · cases hflaw
    · split at hflaw
      · next f initial' _ _ hf hz =>
        split at hflaw
        · cases hflaw
        · next hnear =>
          obtain rfl : initial' = initial := Option.some.inj (hz.symm.trans hi)
          simp only [Deck.zeroed, Deck.rebased, hf, Option.getD_some]
          simp only [CalSet.zeroLimit] at hnear
          omega
      · cases hflaw

theorem keeps_zeroOne {i : Nat} : Keeps s (zeroOne i t) := by
  simp only [zeroOne]
  split
  · next hflaw hd => exact keeps_answer (scanned_setDeck (keeps_scanned s) h fun _ _ => zeroed_zeroWithin hflaw hd)
  · exact keeps_answer h
  · exact keeps_answer h

theorem keeps_zeroAll : Keeps s (zeroAll t) := by
  by_cases hc : t.configuredDecks = []
  · rw [zeroAll_unconfigured hc]
    exact keeps_answer h
  · rw [zeroAll_configured hc]
    split
    · exact keeps_answer h
    · next hnone =>
      refine keeps_answer (keeps_mapDecks h fun i d hi hd _ => zeroed_zeroWithin (i := i) ?_ hd)
      simpa using List.find?_eq_none.1 hnone i (mem_configuredDecks.2 ⟨hi, by simp [hd]⟩)

theorem keeps_zeroDeck {deck : Byte} : Keeps s (zeroDeck deck t) :=
  keeps_ite (keeps_zeroAll h) (keeps_ite (keeps_zeroOne h) (keeps_answer h))

theorem keeps_readStatus : Keeps s (readStatus t) :=
  keeps_ite (keeps_tli (keeps_answer h) id) (keeps_answer h)

theorem keeps_setStream {interval mirror : Byte} : Keeps s (setStream interval mirror t) := by
  simp only [setStream]
  split
  · exact keeps_answer ⟨⟨h.link, h.store, h.zero⟩, h.failed⟩
  · exact keeps_answer h

/-- Every directive keeps the bounds of the link, the store and the limits of the zeros. -/
theorem keeps_runDirective (d : Directive) : Keeps s (runDirective d t) := by
  have hs := keeps_silent s
  have ha : ∀ {st r}, Keeps s (answer st r t) := keeps_answer h
  cases d with
  | start => exact keeps_start h
  | halt => exact keeps_halt h
  | restart => exact keeps_restart h
  | putSite block =>
    simp only [runDirective, putSite]
    split
    · exact ha
    · split
      · exact ha
      · exact keeps_answer (keeps_acceptAllRipe ((keeps_scanned s).rnc _ _ h))
  | readSite => exact ha
  | lineTest => exact keeps_ite ha (keeps_holdQueue (keeps_setClc h))
  | readNode node clear =>
    simp only [runDirective, readNode]
    split
    · exact keeps_answer (keeps_ite (keeps_setClc h) h)
    · exact ha
  | zeroDeck deck => exact keeps_zeroDeck h
  | readWeight => exact ha
  | setStream interval mirror => exact keeps_setStream h
  | putVehicle tag cls present tare allowed blocked =>
    simp only [runDirective, putVehicle]
    split
    · exact keeps_ite ha (keeps_ite ha (keeps_putEntry h))
    · exact ha
  | dropVehicle tag =>
    simp only [runDirective, dropVehicle]
    split
    · exact ha
    · split
      · exact ha
      · exact keeps_answer ⟨⟨h.link, h.store, h.zero⟩, h.failed⟩
  | clearVehicles => exact keeps_answer ⟨⟨h.link, h.store, h.zero⟩, h.failed⟩
  | readVehicle tag =>
    simp only [runDirective, readVehicle]
    split
    · exact ha
    · split
      · exact ha
      · exact ha
  | putClass number filled fields =>
    simp only [runDirective, putClass]
    split
    · split
      · split
        · exact keeps_answer ⟨⟨h.link, h.store, h.zero⟩, h.failed⟩
        · exact ha
      · exact keeps_answer ⟨⟨h.link, h.store, h.zero⟩, h.failed⟩
    · exact ha
  | readClass number =>
    simp only [runDirective, readClass]
    split
    · exact ha
    · exact ha
  | putHoldMask mask salt => exact keeps_ite ha (keeps_answer ⟨⟨h.link, h.store, h.zero⟩, h.failed⟩)
  | identify tag kind onePass =>
    simp only [runDirective, identify]
    split
    · split
      · exact ha
      · split
        · exact ha
        · exact keeps_ite ha (keeps_ite (keeps_bindPassage h) ha)
    · exact ha
  | releaseHold passage reason =>
    simp only [runDirective, releaseHold]
    split
    · exact ha
    · split
      · exact ha
      · exact keeps_ite ha (keeps_ite ha (keeps_ite ha (keeps_releaseFrom h)))
  | abandon passage => exact keeps_abandon h
  | releaseTicket number => exact keeps_ite ha (keeps_ite ha (keeps_ite ha (keeps_holdQueue (keeps_handUpdate h))))
  | fetchTicket number =>
    simp only [runDirective, fetchTicket]
    split
    · exact ha
    · split
      · exact ha
      · split
        · exact ha
        · split
          · exact keeps_answer (keeps_offer h)
          · exact ha
  | readTransaction tag =>
    simp only [runDirective, readTransaction]
    split
    · exact ha
    · split
      · exact ha
      · split
        · exact ha
        · exact ha
  | purgeTransaction tag =>
    exact keeps_ite ha (keeps_ite ha (keeps_ite ha (keeps_ite ha (keeps_holdQueue (keeps_handUpdate h)))))
  | enterCal =>
    simp only [runDirective, enterCal]
    split
    · exact ha
    · split
      · exact ha
      · next hm =>
        exact keeps_ite ha (keeps_ite ha (keeps_ite ha (keeps_answer (keeps_stageCommitted h (by simpa using hm)))))
  | setParam identifier place value =>
    simp only [runDirective, setParam]
    split
    · exact ha
    · next hs =>
      split
      · exact ha
      · exact keeps_ite (keeps_writeParam h hs) ha
  | readParam identifier place selection =>
    simp only [runDirective, readParam]
    split
    · split
      · exact ha
      · exact ha
    · exact keeps_ite ha ha
    · exact ha
  | commitCal =>
    simp only [runDirective, commitCal]
    split
    · exact ha
    · refine keeps_ite ha (keeps_ite ha (keeps_ite ha ?_))
      split
      · exact ha
      · exact keeps_ite ha (keeps_ite ha (keeps_ite ha (keeps_holdQueue (keeps_handUpdate (keeps_openingRecorded h)))))
  | leaveCal => exact keeps_ite (keeps_answer (keeps_endCalibration h)) ha
  | readTrail start => exact keeps_ite ha ha
  | openAudit =>
    exact keeps_ite ha (keeps_ite ha (keeps_ite ha (keeps_ite ha (keeps_answer (silent_setSession hs h)))))
  | capturePoint target declared =>
    simp only [runDirective, capturePoint]
    split
    · exact ha
    · refine keeps_ite ha ?_
      split
      · exact ha
      · refine keeps_ite ha (keeps_ite ha (keeps_ite ha ?_))
        split
        · exact ha
        · exact keeps_answer (silent_setSession hs h)
  | checkReference cell =>
    simp only [runDirective, checkReference]
    split
    · exact ha
    · split
      · exact ha
      · exact keeps_ite ha (keeps_ite ha (keeps_ite ha
          (keeps_holdQueue (scanned_askMode (keeps_scanned s) (silent_setSession hs h)))))
  | closeAudit =>
    simp only [runDirective, closeAudit]
    split
    · exact ha
    · exact keeps_ite ha (keeps_ite ha (keeps_ite ha (keeps_holdQueue (keeps_handUpdate h))))
  | abortAudit =>
    simp only [runDirective, abortAudit]
    split
    · exact ha
    · exact keeps_answer (silent_setSession hs h)
  | setClock fields => exact keeps_ite (keeps_answer ⟨⟨h.link, h.store, h.zero⟩, h.failed⟩) ha
  | readStatus => exact keeps_readStatus h

theorem keeps_refreshLights : Keeps s (refreshLights t) := keeps_ylu h

theorem keeps_finish : Keeps s (finish t) :=
  finish_keeps (P := Keeps s) (fun d _ ht => keeps_runDirective ht d) (fun _ ht => keeps_refreshLights ht) t h

end

/-! ## The completion of an update -/

/-- The part with the change of an update made and the update gone from the queue. -/
def written (u : Update) (rest : List Update) (s : State) : State :=
  { s with stc := { s.stc with store := u.apply s.stc.store, queue := rest } }

section
variable {s t : State} (h : Keeps s t)
include h

theorem keeps_spendNumbers {before : Bool} : Keeps s (spendNumbers before t) :=
  keeps_ite (silent_statusChange (keeps_silent s) (keeps_raise (keeps_fault h))) h

theorem keeps_ticketDone {r : Ticket} {slot : Nat} {passage : Option (BitVec 16)} {made : Bool} :
    Keeps s (ticketDone r slot passage made t) := by
  refine silent_inAnyOrder (keeps_silent s) h fun act hact u hu => ?_
  simp only [List.mem_append, List.mem_cons, List.not_mem_nil, or_false, List.mem_ite_nil_right] at hact
  obtain (rfl | rfl) | ⟨-, rfl⟩ := hact
  · exact keeps_offer hu
  · exact silent_issueCompleted (keeps_silent s) hu
  · exact silent_waitEnded (keeps_silent s) hu

theorem keeps_auditClosed {pass before : Bool} : Keeps s (auditClosed pass before t) := by
  have hpassed : Keeps s (rebaseZeros { t with vfu := { t.vfu with zeroLimitPending := false } }) :=
    keeps_rebaseZeros ((keeps_silent s).vfu _ _ h)
  exact silent_statusChange (keeps_silent s) (silent_setSession (keeps_silent s) (keeps_ite hpassed h))

theorem keeps_replyCertificate {r : Ticket} {slot mark : Nat} : Keeps s (replyCertificate r slot mark t) := by
  simp only [replyCertificate]
  split
  · exact keeps_answerHeld h
  · exact h

theorem keeps_certificateDone {r : Ticket} {slot mark : Nat} {pass before : Bool} :
    Keeps s (certificateDone r slot pass mark before t) := by
  refine silent_inAnyOrder (keeps_silent s) h fun act hact u hu => ?_
  simp only [List.mem_cons, List.not_mem_nil, or_false] at hact
  obtain rfl | rfl | rfl := hact
  · exact keeps_offer hu
  · exact keeps_auditClosed hu
  · exact keeps_replyCertificate hu

theorem keeps_releaseDone {slot fill : Nat} : Keeps s (releaseDone slot fill t) :=
  keeps_ite (silent_waitEnded (keeps_silent s) (keeps_answerHeld h)) (keeps_answerHeld h)

theorem keeps_purgeDone {entry : Option OpenEntry} {made : Bool} : Keeps s (purgeDone entry made t) :=
  keeps_ite (silent_waitEnded (keeps_silent s) (keeps_answerHeld h)) (keeps_answerHeld h)

end

/-- Once a commit is written and the committed set is in use, what is left of its completion keeps what the part then holds. -/
theorem commitDone_keeps {k : Nat} {before : Bool} {old : CalSet} {s : State} :
    Keeps (setChanged old true { s with clu := { staged := none, openingRecorded := false } }) (commitDone k before old s) := by
  refine silent_inAnyOrder (keeps_silent _) (Keeps.refl _) fun act hact u hu => ?_
  simp only [List.mem_cons, List.not_mem_nil, or_false] at hact
  obtain rfl | rfl := hact
  · exact silent_statusChange (keeps_silent _) hu
  · exact keeps_answerHeld hu

/-- The set in use changes with a commit alone. -/
theorem written_zerosWithin {u : Update} {rest : List Update} {s : State} (hu : ∀ set entries, u ≠ .commit set entries)
    (h : s.zerosWithin) : (written u rest s).zerosWithin := by
  cases u with
  | commit set entries => exact absurd rfl (hu set entries)
  | ticket | certificate | release | purge | reason => exact h

/-! The completion of the oldest update, kind by kind (R213). -/

section
variable {s : State} {rest : List Update}

theorem updateComplete_ticket {t : Ticket} {c : TableChange} {passage : Option (BitVec 16)}
    (hq : s.stc.queue = .ticket t c passage :: rest) :
    updateComplete s =
      ticketDone t s.stc.store.ticket.fill passage (roomMade s.stc.store ((Update.ticket t c passage).apply s.stc.store))
        (spendNumbers s.verified (written (.ticket t c passage) rest s)) := by
  simp only [updateComplete, hq]
  rfl

theorem updateComplete_certificate {t : Ticket} {pass : Bool} {mark : Nat}
    (hq : s.stc.queue = .certificate t pass mark :: rest) :
    updateComplete s =
      certificateDone t s.stc.store.ticket.fill pass mark
        (if (spendNumbers s.verified (written (.certificate t pass mark) rest s)).stc.fault then
          (spendNumbers s.verified (written (.certificate t pass mark) rest s)).verified else s.verified)
        (spendNumbers s.verified (written (.certificate t pass mark) rest s)) := by
  simp only [updateComplete, hq]
  rfl

theorem updateComplete_release {number : BitVec 32} (hq : s.stc.queue = .release number :: rest) :
    updateComplete s =
      match s.stc.store.ticket.slotOf number with
      | some slot => releaseDone slot s.stc.store.ticket.fill (written (.release number) rest s)
      | none => written (.release number) rest s := by
  simp only [updateComplete, hq]
  rfl

theorem updateComplete_purge {tag : Tag} (hq : s.stc.queue = .purge tag :: rest) :
    updateComplete s =
      purgeDone (findOpen tag s.stc.store.transaction.table)
        (roomMade s.stc.store ((Update.purge tag).apply s.stc.store)) (written (.purge tag) rest s) := by
  simp only [updateComplete, hq]
  rfl

theorem updateComplete_commit {set : CalSet} {entries : List TrailEntry} (hq : s.stc.queue = .commit set entries :: rest) :
    updateComplete s =
      commitDone entries.length s.verified s.setInUse (written (.commit set entries) rest s) := by
  simp only [updateComplete, hq]
  rfl

theorem updateComplete_reason (hq : s.stc.queue = .reason :: rest) :
    updateComplete s =
      { written .reason rest s with vfu := { s.vfu with zeroLimitPending := false } } := by
  simp only [updateComplete, hq]
  rfl

end

/-- What the completion of the oldest update keeps beyond its own change of the store. -/
theorem updateComplete_keeps {s : State} {u : Update} {rest : List Update} (hq : s.stc.queue = u :: rest) :
    (s.tli.fits → (updateComplete s).tli.fits) ∧ (updateComplete s).stc.store = u.apply s.stc.store ∧
      (s.zerosWithin → (updateComplete s).zerosWithin) := by
  have hw : Keeps (written u rest s) (written u rest s) := Keeps.refl _
  have hkept : Keeps (written u rest s) (updateComplete s) → (∀ set entries, u ≠ .commit set entries) →
      (s.tli.fits → (updateComplete s).tli.fits) ∧ (updateComplete s).stc.store = u.apply s.stc.store ∧
        (s.zerosWithin → (updateComplete s).zerosWithin) := fun hk hu =>
    ⟨hk.link, hk.store, fun hz => hk.zero (written_zerosWithin hu hz)⟩
  cases u with
  | ticket r change passage =>
    exact hkept (updateComplete_ticket hq ▸ keeps_ticketDone (keeps_spendNumbers hw)) nofun
  | certificate r pass mark =>
    exact hkept (updateComplete_certificate hq ▸ keeps_certificateDone (keeps_spendNumbers hw)) nofun
  | release number =>
    refine hkept ?_ nofun
    rw [updateComplete_release hq]
    split
    · exact keeps_releaseDone hw
    · exact hw
  | purge tag => exact hkept (updateComplete_purge hq ▸ keeps_purgeDone hw) nofun
  | commit set entries =>
    have hk := commitDone_keeps (k := entries.length) (before := s.verified) (old := s.setInUse)
      (s := written (.commit set entries) rest s)
    rw [← updateComplete_commit hq] at hk
    refine ⟨fun hl => hk.link ?_, hk.store.trans ?_, fun hz => hk.zero (setChanged_zerosWithin hz)⟩
    · rw [setChanged_eq]
      exact hl
    · rw [setChanged_eq]
      rfl
  | reason => exact hkept (updateComplete_reason hq ▸ ⟨⟨id, rfl, id⟩, id⟩) nofun

/-! ## Every command -/

theorem keeps_cck {s t : State} {x : Cck} (h : Keeps s t) : Keeps s { t with cck := x } := ⟨⟨h.link, h.store, h.zero⟩, h.failed⟩

theorem keeps_atTime {s t : State} {now : Stamp} (h : Keeps s t) : Keeps s (atTime now t) := keeps_ylu h

/-- A command that is an effect at a timebase reading carries over what its effect carries over. -/
theorem handle_carries {now : Stamp} {effect : State → State} {s t : State} (h : handle now effect s = .next t)
    (he : Carries s (effect (atTime now s))) : Carries s t := by
  cases h
  split
  · exact he.trans (keeps_finish (Keeps.refl _)).toCarries
  · exact (Keeps.refl s).toCarries

theorem handle_keeps {now : Stamp} {effect : State → State} {s t : State} (h : handle now effect s = .next t)
    (he : Keeps s (effect (atTime now s))) : Carries s t := handle_carries h he.toCarries

/-- Every command but power-on, power loss and the completion of an update keeps the bounds of the link, the store and the limits
of the zeros. -/
theorem exec_keeps {c : Instr} {s t : State} (h : exec c s = .next t) :
    (∃ rate1 rate0 levels, c = .powerOn rate1 rate0 levels) ∨ c = .powerLoss ∨ (∃ now, c = .storeUpdateComplete now) ∨
      Carries s t := by
  have hs := keeps_silent s
  have hz := keeps_scanned s
  have ha : ∀ {now}, Keeps s (atTime now s) := keeps_atTime (Keeps.refl s)
  cases c with
  | powerOn rate1 rate0 levels => exact .inl ⟨rate1, rate0, levels, rfl⟩
  | powerLoss => exact .inr (.inl rfl)
  | storeUpdateComplete now => exact .inr (.inr (.inl ⟨now, rfl⟩))
  | storeCheckComplete => exact .inr (.inr (.inr (handle_carries h (carries_checkComplete ha))))
  | frameReceived => exact .inr (.inr (.inr (handle_keeps h (keeps_receiveChars _ ha))))
  | frameGapTimeout => exact .inr (.inr (.inr (handle_keeps h (keeps_gapPassed ha))))
  | transmitFrameEnd => exact .inr (.inr (.inr (handle_keeps h (keeps_frameSent ha))))
  | haltingEnd => exact .inr (.inr (.inr (handle_keeps h (keeps_haltingEnds ha))))
  | lineTestComplete => exact .inr (.inr (.inr (handle_keeps h (keeps_lineTested ha))))
  | referenceCheckTimeout =>
    refine .inr (.inr (.inr (handle_keeps h ?_)))
    simp only [checkTimesOut]
    split
    · exact keeps_ite (scanned_referenceCounts hz ha) ha
    · exact ha
  | clockSecond =>
    refine .inr (.inr (.inr (handle_keeps h ?_)))
    simp only [secondPassed]
    split
    · split
      · exact keeps_cck ha
      · exact keeps_cck ha
    · exact ha
  | scanTimerExpiry => exact .inr (.inr (.inr (handle_keeps h (keeps_scanTimerRuns ha))))
  | replyWindowEnd => exact .inr (.inr (.inr (handle_keeps h (keeps_windowEnded ha))))
  | nodeLost => exact .inr (.inr (.inr (handle_keeps h (keeps_nodeReachesLimit ha))))
  | lineBreak => exact .inr (.inr (.inr (handle_keeps h (keeps_breakSeen ha))))
  | lineRestored => exact .inr (.inr (.inr (handle_keeps h (keeps_markSeen ha))))
  | deckFault now i => exact .inr (.inr (.inr (handle_keeps h (keeps_deckPassesLimit ha))))
  | zeroTrackCorrection now i => exact .inr (.inr (.inr (handle_keeps h (keeps_trackRunEnds ha))))
  | streamOffer => exact .inr (.inr (.inr (handle_keeps h (keeps_offerLatest ha))))
  | warmupEnd => exact .inr (.inr (.inr (handle_keeps h (keeps_warmupEnds ha))))
  | rawTransition => exact .inr (.inr (.inr (handle_keeps h (keeps_ylu ha))))
  | filterAccept => exact .inr (.inr (.inr (handle_keeps h (keeps_acceptRipe ha))))
  | settlingComplete => exact .inr (.inr (.inr (handle_keeps h (keeps_settleInput ha))))
  | captureTimeout => exact .inr (.inr (.inr (handle_keeps h (silent_captureTimer hs ha))))
  | pairingExpiry => exact .inr (.inr (.inr (handle_keeps h (silent_pairingTimer hs ha))))
  | storeUpdateFailed => exact .inr (.inr (.inr (handle_keeps (effect := fun s => haltGoesOn (updatesFail s)) h (keeps_haltGoesOn (keeps_updatesFail ha)))))
  | characterReceived => exact .inr (.inr (.inr (handle_keeps h (keeps_receiveChar ha))))
  | _ => exact .inr (.inr (.inr (handle_keeps h (keeps_submit ha))))

/-- The completion of an update keeps the bounds of the link and the limits of the zeros, and changes the store by the oldest
update alone. -/
theorem exec_storeUpdateComplete {now : Stamp} {s t : State} (h : exec (.storeUpdateComplete now) s = .next t) :
    (s.tli.fits → t.tli.fits) ∧
      (t.stc.store = s.stc.store ∨ ∃ u ∈ s.stc.queue, t.stc.store = u.apply s.stc.store) ∧
      (s.zerosWithin → t.zerosWithin) := by
  cases h
  split
  case isFalse => exact ⟨id, .inl rfl, id⟩
  cases hq : s.stc.queue with
  | nil =>
    have hnone : updateComplete (atTime now s) = atTime now s := by simp only [updateComplete, atTime_stc, hq]
    have hk : Keeps s (finish (haltGoesOn (updateComplete (atTime now s)))) := by
      rw [hnone]
      exact keeps_finish (keeps_haltGoesOn (keeps_atTime (Keeps.refl s)))
    exact ⟨hk.link, .inl hk.store, hk.zero⟩
  | cons u rest =>
    obtain ⟨hlink, hstore, hzero⟩ := updateComplete_keeps (s := atTime now s) hq
    have hk : Keeps (updateComplete (atTime now s)) (finish (haltGoesOn (updateComplete (atTime now s)))) :=
      keeps_finish (keeps_haltGoesOn (Keeps.refl _))
    exact ⟨fun hl => hk.link (hlink hl), .inr ⟨u, by simp, hk.store.trans hstore⟩, fun hz => hk.zero (hzero hz)⟩

/-- What every command keeps: the bounds of the link, the limits of the zeros, and the store but for an update's own change. -/
theorem exec_keeps_all {c : Instr} {s t : State} (h : exec c s = .next t) :
    (s.tli.fits → t.tli.fits) ∧
      (t.stc.store = s.stc.store ∨ ∃ u ∈ s.stc.queue, t.stc.store = u.apply s.stc.store) ∧
      (s.zerosWithin → t.zerosWithin) := by
  have hnoDeck : ∀ {set : CalSet} {i : Nat} {d : Deck}, Wge.powerOn.deck i = some d → d.zeroWithin set := by
    intro set i d hd
    simp only [Wge.powerOn, Wge.deck, List.getD_eq_getElem?_getD, List.getElem?_replicate] at hd
    split at hd <;> cases hd
  obtain ⟨rate1, rate0, levels, rfl⟩ | rfl | ⟨now, rfl⟩ | hk := exec_keeps h
  · cases h
    exact ⟨fun _ => by simp [poweredOn, Tli.powerOn, Tli.fits], .inl rfl, fun _ _ _ _ => hnoDeck⟩
  · cases h
    exact ⟨fun _ => by simp [powerLost, State.reset, Tli.powerOn, Tli.fits], .inl rfl, fun _ _ _ _ => hnoDeck⟩
  · exact exec_storeUpdateComplete h
  · exact ⟨hk.link, .inl hk.store, hk.zero⟩

/-! ## The open transactions -/

/-- The number of open transactions is the FIRST count less the SECOND count less the purge count (R133). -/
def TransactionArea.balanced (a : TransactionArea) : Prop :=
  a.table.length + a.secondCount + a.purgeCount = a.firstCount

theorem insertOpen_length (e : OpenEntry) (table : List OpenEntry) : (insertOpen e table).length = table.length + 1 := by
  induction table with
  | nil => rfl
  | cons x rest ih =>
    simp only [insertOpen]
    split
    · simp [ih]
    · rfl

/-- The removal of a tag that is found takes one entry out. -/
theorem removeOpen_length {tag : Tag} {table : List OpenEntry} (h : (findOpen tag table).isSome = true) :
    (removeOpen tag table).length + 1 = table.length := by
  induction table with
  | nil => simp [findOpen] at h
  | cons x rest ih =>
    simp only [removeOpen]
    split
    · rfl
    · next hx =>
      simp only [findOpen, List.find?_cons, beq_eq_false_iff_ne.2 hx] at h
      simp [ih h]

/-- A removal and its count go together (log 18). -/
theorem change_balanced {c : TableChange} {a : TransactionArea} (h : a.balanced) : (a.change c).balanced := by
  simp only [TransactionArea.balanced] at h ⊢
  cases c with
  | insert e =>
    simp only [TransactionArea.change, insertOpen_length]
    omega
  | remove tag =>
    simp only [TransactionArea.change]
    split
    · next hf =>
      have := removeOpen_length hf
      simp only
      omega
    · exact h
  | keep => exact h

theorem purge_balanced {tag : Tag} {a : TransactionArea} (h : a.balanced) : (a.purge tag).balanced := by
  simp only [TransactionArea.balanced, TransactionArea.purge] at h ⊢
  split
  · next hf =>
    have := removeOpen_length hf
    simp only
    omega
  · exact h

theorem apply_balanced {u : Update} {st : Store} (h : st.transaction.balanced) : (u.apply st).transaction.balanced := by
  cases u with
  | ticket t c passage => exact change_balanced h
  | purge tag => exact purge_balanced h
  | certificate | release | commit | reason => exact h

/-! ## The statements -/

/-- What a command keeps, a step keeps: an idle step moves the timebase alone. -/
theorem step_keeps {s t : State} (h : step s = .next t) :
    (s.tli.fits → t.tli.fits) ∧
      (t.stc.store = s.stc.store ∨ ∃ u ∈ s.stc.queue, t.stc.store = u.apply s.stc.store) ∧
      (s.zerosWithin → t.zerosWithin) := by
  obtain rfl | ⟨i, rest, -, hexec⟩ := step_cases h
  · simp only [idleStep]
    split
    · exact ⟨id, .inl rfl, id⟩
    · exact ⟨id, .inl rfl, id⟩
  · exact exec_keeps_all (s := { s with pending := rest }) hexec

/-- Settles O6: each offer, choice and answer keeps the bounds of the link. -/
theorem linkFitsAtEveryStep : Obligations.LinkFitsAtEveryStep := fun _ _ hs hstep => (step_keeps hstep).1 hs

/-- Settles O7: the table and its counters move together in each update's change of the store. -/
theorem balancedAtEveryStep : Obligations.BalancedAtEveryStep := by
  intro s t hs hstep
  obtain ⟨-, hstore | ⟨u, -, hstore⟩, -⟩ := step_keeps hstep
  · rw [State.balanced, hstore]
    exact hs
  · rw [State.balanced, hstore]
    exact apply_balanced (u := u) hs

/-- Settles O8: a correction is cut at the limit, ZERO_DECK refuses beyond it, and a change of Max reloads the decks. -/
theorem zeroWithinAtEveryStep : Obligations.ZeroWithinAtEveryStep := fun _ _ hs hstep => (step_keeps hstep).2.2 hs

/-- Settles O9: no effect but the completion of an update writes the store, and power-on and power loss carry it over. -/
theorem storeChangesOnlyByUpdates : Obligations.StoreChangesOnlyByUpdates := by
  intro c s t hc h
  obtain ⟨rate1, rate0, levels, rfl⟩ | rfl | ⟨now, rfl⟩ | hk := exec_keeps h
  · cases h
    rfl
  · cases h
    rfl
  · exact absurd rfl (hc now)
  · exact hk.store

end Sys2Proof.Machine
end

section
/-! SUPPORT. The machine as a whole (R51, the reset tables of every chapter), and the two directives that read the site settings and
the latest record (R48, R210). -/

namespace Sys2Proof.Machine

/-- Settles O1: the two cases of a step, by the front of the queue. -/
theorem stepRunsFrontCommand : Obligations.StepRunsFrontCommand := by
  intro c rest s h
  simp only [step, h]

/-- Settles O2: on an empty queue the part idles, by whether it has power. -/
theorem idleStepCountsTimebase : Obligations.IdleStepCountsTimebase := by
  intro s h
  have hidle : step s = .next (idleStep s) := by simp only [step, h]
  rw [hidle, idleStep]
  refine ⟨fun hp => ?_, fun hp => ?_⟩
  · rw [if_pos hp]
    rfl
  · rw [if_neg (by simp [hp])]

/-! ## The reset state -/

theorem reset_filter (i : YardInput) : State.reset.ylu.filter i = .settle false 0 := by cases i <;> rfl

theorem reset_node {n : Nat} (h1 : 1 ≤ n) (h16 : n ≤ 16) : State.reset.clc.node n = NodeRecord.fresh false := by
  simp only [State.reset, Clc.powerOn, Clc.node, List.getD_eq_getElem?_getD, List.getElem?_replicate]
  rw [if_pos (show n - 1 < 16 by omega), Option.getD_some]

theorem reset_deck (i : Nat) : State.reset.wge.deck i = none := by
  simp only [State.reset, Wge.powerOn, Wge.deck, List.getD_eq_getElem?_getD, List.getElem?_replicate]
  split <;> rfl

/-- Settles O3: the power-on values of each block and the factory store. -/
theorem resetState : Obligations.ResetState := by
  refine ⟨⟨rfl, rfl, rfl⟩, ⟨rfl, rfl⟩, ⟨rfl, rfl, rfl, rfl⟩, fun i => ?_, ⟨rfl, rfl, rfl, rfl, rfl⟩, fun n => reset_node,
    fun i _ => reset_deck i, ⟨rfl, rfl⟩, ⟨rfl, rfl, rfl, rfl, rfl⟩, ⟨rfl, rfl, rfl, rfl⟩, ⟨rfl, rfl, rfl⟩, ⟨rfl, rfl, rfl⟩,
    ⟨rfl, rfl, rfl, rfl, rfl, rfl, rfl, rfl, rfl⟩, ⟨rfl, rfl, rfl⟩, ⟨rfl, rfl, rfl⟩, ⟨rfl, rfl⟩,
    ⟨rfl, rfl, rfl, rfl, rfl, rfl, rfl, rfl, ?_, rfl⟩, rfl⟩
  · rw [reset_filter]
    exact ⟨rfl, rfl, rfl, rfl⟩
  · decide

/-- Settles O4: the outputs are released with NEVER_VERIFIED standing, the queues and the table are empty, and no deck is
configured. -/
theorem invariantsHoldAtReset : Obligations.InvariantsHoldAtReset := by
  refine ⟨lit_lightsFollow ⟨by decide, by decide, rfl, rfl⟩, ⟨by decide, by decide, fun _ => ⟨rfl, rfl, rfl⟩⟩, rfl,
    fun i d _ hd => ?_⟩
  rw [reset_deck] at hd
  cases hd

/-! ## READ_SITE and READ_WEIGHT -/

/-- Settles O22: both are answered at once with what the part holds. -/
theorem siteAndWeightAreRead : Obligations.SiteAndWeightAreRead := by
  intro s now ref h
  exact ⟨arrive_replied h h (d := .readSite) rfl rfl, arrive_replied h h (d := .readWeight) rfl rfl⟩

end Sys2Proof.Machine
end

section
/-! SUPPORT. The terminal link (R193 to R200, R204): a directive's payload and its judgement, the receive framer character by
character and frame by frame, the arbiter's choice, and a directive that arrives while another holds the queue. -/

namespace Sys2Proof.Machine

/-! ## A directive's bytes -/

/-- Two adjoining groups of bits of a field are one group of it. -/
theorem extract_append {w : Nat} (x : BitVec w) (start n m : Nat) :
    x.extractLsb' (start + m) n ++ x.extractLsb' start m = x.extractLsb' start (n + m) := by
  rw [BitVec.extractLsb'_append_extractLsb'_eq_extractLsb']
  omega

theorem word16_bytes (x : BitVec 16) : x.extractLsb' 8 8 ++ x.extractLsb' 0 8 = x :=
  (extract_append x 0 8 8).trans BitVec.extractLsb'_eq_self

theorem word32_bytes (x : BitVec 32) :
    word32 (x.extractLsb' 24 8) (x.extractLsb' 16 8) (x.extractLsb' 8 8) (x.extractLsb' 0 8) = x := by
  have h1 : x.extractLsb' 24 8 ++ x.extractLsb' 16 8 = x.extractLsb' 16 16 := extract_append x 16 8 8
  have h2 : x.extractLsb' 16 16 ++ x.extractLsb' 8 8 = x.extractLsb' 8 24 := extract_append x 8 16 8
  have h3 : x.extractLsb' 8 24 ++ x.extractLsb' 0 8 = x.extractLsb' 0 32 := extract_append x 0 24 8
  rw [word32, h1, h2, h3, BitVec.extractLsb'_eq_self]

theorem word64_bytes (x : BitVec 64) :
    word64 (x.extractLsb' 56 8) (x.extractLsb' 48 8) (x.extractLsb' 40 8) (x.extractLsb' 32 8) (x.extractLsb' 24 8)
      (x.extractLsb' 16 8) (x.extractLsb' 8 8) (x.extractLsb' 0 8) = x := by
  have h1 : x.extractLsb' 56 8 ++ x.extractLsb' 48 8 = x.extractLsb' 48 16 := extract_append x 48 8 8
  have h2 : x.extractLsb' 48 16 ++ x.extractLsb' 40 8 = x.extractLsb' 40 24 := extract_append x 40 16 8
  have h3 : x.extractLsb' 40 24 ++ x.extractLsb' 32 8 = x.extractLsb' 32 32 := extract_append x 32 24 8
  have h4 : x.extractLsb' 32 32 ++ x.extractLsb' 24 8 = x.extractLsb' 24 40 := extract_append x 24 32 8
  have h5 : x.extractLsb' 24 40 ++ x.extractLsb' 16 8 = x.extractLsb' 16 48 := extract_append x 16 40 8
  have h6 : x.extractLsb' 16 48 ++ x.extractLsb' 8 8 = x.extractLsb' 8 56 := extract_append x 8 48 8
  have h7 : x.extractLsb' 8 56 ++ x.extractLsb' 0 8 = x.extractLsb' 0 64 := extract_append x 0 56 8
  rw [word64, h1, h2, h3, h4, h5, h6, h7, BitVec.extractLsb'_eq_self]

/-- A directive's code is one of the table's. -/
theorem knownCode_code (d : Directive) : knownCode d.code = true := by cases d <;> rfl

/-- A well-formed directive is parsed back from its code and parameters. -/
theorem parseParams_params {d : Directive} (h : d.wellFormed = true) : parseParams d.code.toNat d.params = some d := by
  cases d with
  | putSite block => exact if_pos h
  | dropVehicle tag | readVehicle tag | readTransaction tag | purgeTransaction tag =>
    exact congrArg (some ∘ _) (word32_bytes tag)
  | releaseTicket number | fetchTicket number | readTrail number => exact congrArg (some ∘ _) (word32_bytes number)
  | abandon passage => exact congrArg (some ∘ _) (word16_bytes passage)
  | releaseHold passage reason => exact congrArg (fun p => some (Directive.releaseHold p reason)) (word16_bytes passage)
  | identify tag kind onePass => exact congrArg (fun t => some (Directive.identify t kind onePass)) (word32_bytes tag)
  | setParam identifier place value =>
    exact congrArg (fun v => some (Directive.setParam identifier place v)) (word32_bytes value)
  | capturePoint target declared => exact congrArg (fun v => some (Directive.capturePoint target v)) (word32_bytes declared)
  | putHoldMask mask salt => exact congrArg (fun m => some (Directive.putHoldMask m salt)) (word64_bytes mask)
  | putVehicle tag cls present tare allowed blocked =>
    exact congrArg₂ (fun t w => some (Directive.putVehicle t cls present w allowed blocked)) (word32_bytes tag) (word32_bytes tare)
  | putClass number filled f =>
    obtain ⟨lo, hi, single, tandem, triple, quad, gross⟩ := f
    refine congrArg (fun f => some (Directive.putClass number filled f)) (ClassFields.mk.injEq .. ▸ ?_)
    exact ⟨rfl, rfl, word32_bytes _, word32_bytes _, word32_bytes _, word32_bytes _, word32_bytes _⟩
  | _ => rfl

/-- Settles O12: the payload's code is known and its parameters are parsed back. -/
theorem directivePayloadRoundTrip : Obligations.DirectivePayloadRoundTrip := by
  intro ref d h
  simp only [encodeDirective, judgePayload, knownCode_code, if_true, parseParams_params h]

/-! ## A frame on the line -/

/-- A directive's payload finds room in a frame. -/
theorem encodeDirective_length {ref : Byte} {d : Directive} (h : d.wellFormed = true) :
    1 ≤ (encodeDirective ref d).length ∧ (encodeDirective ref d).length ≤ 250 := by
  cases d with
  | putSite block =>
    have hb : block.length = 25 := by simpa [Directive.wellFormed] using h
    simp [encodeDirective, Directive.params, hb]
  | _ => simp [encodeDirective, Directive.params, fieldBytes]

/-- The LEN byte of a payload that finds room is its length. -/
theorem len_toNat {n : Nat} (h : n ≤ 250) : (BitVec.ofNat 8 n).toNat = n := by
  rw [BitVec.toNat_ofNat]
  omega

/-- Bytes as they arrive, each with its stop bit. -/
def goodChars (bytes : List Byte) : List LinkChar := bytes.map fun b => ⟨b, true⟩

/-- A byte count that is the framer's own state is the same whatever the framer's state was. -/
theorem discardFrame_setFramer (f : Framer) (s : State) : discardFrame (setFramer f s) = discardFrame s := rfl

theorem setFramer_setFramer (f g : Framer) (s : State) : setFramer f (setFramer g s) = setFramer f s := rfl

theorem setFramer_same {f : Framer} {s : State} (h : s.tli.framer = f) : setFramer f s = s := by
  rw [← h]
  rfl

/-- A complete frame leaves the framer in HUNT, wherever it was. -/
theorem frameComplete_setFramer (bytes : List Byte) (f : Framer) (s : State) :
    frameComplete bytes (setFramer f s) = frameComplete bytes s := rfl

section
variable {s : State} {c : LinkChar}

theorem receiveChar_sync (h : s.tli.framer = .hunt) (hd : c.data = sync) (hs : c.stopOk = true) :
    receiveChar c s = setFramer (.inFrame []) s := by
  simp [receiveChar, h, hd, hs]

theorem receiveChar_hunting (h : s.tli.framer = .hunt) (hc : c.data ≠ sync ∨ c.stopOk = false) : receiveChar c s = s := by
  simp only [receiveChar, h]
  rw [if_neg]
  simp only [Bool.and_eq_true, beq_iff_eq, not_and]
  rcases hc with hd | hs
  · exact fun _ => hd
  · simp [hs]

theorem receiveChar_unstopped {bytes : List Byte} (h : s.tli.framer = .inFrame bytes) (hs : c.stopOk = false) :
    receiveChar c s = discardFrame s := by
  simp [receiveChar, h, hs]

/-- A byte inside a frame, by the LEN byte and the number of bytes behind it. -/
theorem receiveChar_inFrame {bytes rest : List Byte} {len : Byte} (h : s.tli.framer = .inFrame bytes) (hs : c.stopOk = true)
    (hb : bytes ++ [c.data] = len :: rest) :
    receiveChar c s =
      if len = 0 ∨ 250 < len.toNat then discardFrame s
      else if rest.length = len.toNat + 3 then frameComplete (len :: rest) s
      else setFramer (.inFrame (len :: rest)) s := by
  simp [receiveChar, h, hs, hb]

end

/-- A LEN byte of 1 to 250 discards no frame. -/
theorem len_in_range {len : Byte} (h0 : 1 ≤ len.toNat) (h250 : len.toNat ≤ 250) : ¬ (len = 0 ∨ 250 < len.toNat) := by
  rintro (rfl | h)
  · exact absurd h0 (by decide)
  · omega

/-- A byte short of the frame's end joins the frame. -/
theorem receiveChar_join {s : State} {c : LinkChar} {bytes rest : List Byte} {len : Byte} (h : s.tli.framer = .inFrame bytes)
    (hs : c.stopOk = true) (hb : bytes ++ [c.data] = len :: rest) (h0 : 1 ≤ len.toNat) (h250 : len.toNat ≤ 250)
    (hl : rest.length < len.toNat + 3) : receiveChar c s = setFramer (.inFrame (len :: rest)) s := by
  rw [receiveChar_inFrame h hs hb, if_neg (len_in_range h0 h250), if_neg (by omega)]

/-- The last byte of a frame completes it. -/
theorem receiveChar_last {s : State} {c : LinkChar} {bytes rest : List Byte} {len : Byte} (h : s.tli.framer = .inFrame bytes)
    (hs : c.stopOk = true) (hb : bytes ++ [c.data] = len :: rest) (h0 : 1 ≤ len.toNat) (h250 : len.toNat ≤ 250)
    (hl : rest.length = len.toNat + 3) : receiveChar c s = frameComplete (len :: rest) s := by
  rw [receiveChar_inFrame h hs hb, if_neg (len_in_range h0 h250), if_pos hl]

/-- The bytes that arrive short of the frame's end join the frame. -/
theorem receiveChars_join {len : Byte} (h0 : 1 ≤ len.toNat) (h250 : len.toNat ≤ 250) :
    ∀ (bs rest : List Byte) {s : State}, s.tli.framer = .inFrame (len :: rest) → rest.length + bs.length < len.toNat + 3 →
      receiveChars (goodChars bs) s = setFramer (.inFrame (len :: (rest ++ bs))) s
  | [], rest, s, h, _ => by
    rw [List.append_nil, setFramer_same h]
    rfl
  | b :: bs, rest, s, h, hl => by
    rw [List.length_cons] at hl
    have hlen : (rest ++ [b]).length = rest.length + 1 := List.length_append
    have hchar : receiveChar ⟨b, true⟩ s = setFramer (.inFrame (len :: (rest ++ [b]))) s :=
      receiveChar_join h rfl rfl h0 h250 (by omega)
    have hrest := receiveChars_join h0 h250 bs (rest ++ [b]) (s := setFramer (.inFrame (len :: (rest ++ [b]))) s) rfl
      (by omega)
    rw [List.append_assoc, setFramer_setFramer] at hrest
    exact (congrArg _ hchar).trans hrest

/-- A whole frame that arrives in HUNT is judged as complete: SYNC, LEN, then as many bytes as LEN says, with TYPE and CRC. -/
theorem receiveChars_frame {s : State} {len last : Byte} {middle : List Byte} (h : s.tli.framer = .hunt) (h0 : 1 ≤ len.toNat)
    (h250 : len.toNat ≤ 250) (hl : middle.length = len.toNat + 2) :
    receiveChars (goodChars (0xA5 :: len :: (middle ++ [last]))) s = frameComplete (len :: (middle ++ [last])) s := by
  have hsync : receiveChar ⟨0xA5, true⟩ s = setFramer (.inFrame []) s := receiveChar_sync h rfl rfl
  have hfirst : receiveChar ⟨len, true⟩ (setFramer (.inFrame []) s) = setFramer (.inFrame [len]) s :=
    receiveChar_join rfl rfl rfl h0 h250 (Nat.succ_pos _)
  have hjoin : receiveChars (goodChars middle) (setFramer (.inFrame [len]) s) = setFramer (.inFrame (len :: middle)) s :=
    receiveChars_join h0 h250 middle [] rfl (by simp only [List.length_nil]; omega)
  have hlast : receiveChar ⟨last, true⟩ (setFramer (.inFrame (len :: middle)) s) = frameComplete (len :: (middle ++ [last])) s :=
    receiveChar_last rfl rfl rfl h0 h250 (by rw [List.length_append, List.length_singleton]; omega)
  have hchars : goodChars (0xA5 :: len :: (middle ++ [last])) =
      ⟨0xA5, true⟩ :: ⟨len, true⟩ :: (goodChars middle ++ [⟨last, true⟩]) := by simp [goodChars]
  rw [receiveChars] at hjoin
  rw [hchars, receiveChars, List.foldl_cons, List.foldl_cons, hsync, hfirst, List.foldl_append, hjoin]
  exact hlast

/-- The same for the bytes of a frame's envelope, with two bytes in the place of its CRC. -/
theorem receiveChars_envelope {s : State} {type hi lo : Byte} {payload : List Byte} (h : s.tli.framer = .hunt)
    (h1 : 1 ≤ payload.length) (h250 : payload.length ≤ 250) :
    receiveChars (goodChars (0xA5 :: (frameCore type payload ++ [hi, lo]))) s =
      frameComplete (frameCore type payload ++ [hi, lo]) s := by
  have hlen := len_toNat h250
  have hframe := receiveChars_frame (len := BitVec.ofNat 8 payload.length) (last := lo) (middle := type :: payload ++ [hi]) h
    (hlen.symm ▸ h1) (hlen.symm ▸ h250) (by rw [hlen, List.length_append, List.length_cons]; rfl)
  rwa [List.append_assoc] at hframe

/-- A complete frame is discarded when its CRC or its TYPE is wrong, and its payload is judged otherwise. -/
theorem frameComplete_core (type hi lo : Byte) (payload : List Byte) (s : State) :
    frameComplete (frameCore type payload ++ [hi, lo]) s =
      if [hi, lo] ≠ fieldBytes (crc16 (frameCore type payload)) 2 ∨ type ≠ directiveType then discardFrame s
      else takePayload payload (setFramer .hunt s) := by
  have hcore : (frameCore type payload ++ [hi, lo]).take ((frameCore type payload ++ [hi, lo]).length - 2) =
      frameCore type payload := by simp
  simp only [frameComplete, hcore]
  by_cases hcrc : [hi, lo] = fieldBytes (crc16 (frameCore type payload)) 2
  · by_cases htype : type = directiveType
    · simp [hcrc, htype, frameCore]
    · simp [hcrc, htype, frameCore]
  · have hne : frameCore type payload ++ fieldBytes (crc16 (frameCore type payload)) 2 ≠ frameCore type payload ++ [hi, lo] :=
      fun he => hcrc (List.append_cancel_left he).symm
    rw [if_pos (by simpa using hne), if_pos (.inl hcrc)]

end Sys2Proof.Machine
end

section
/-! SUPPORT. The statements on the terminal link's receiver and arbiter (R193 to R200). -/

namespace Sys2Proof.Machine

/-! ## Frames received in HUNT -/

/-- The command of a directive's row is its arrival. -/
theorem exec_directiveRow (now : Stamp) (ref : Byte) (d : Directive) (s : State) :
    exec (directiveRow now ref d) s = arrive now ref d s := by
  cases d <;> rfl

/-- A well-formed directive's payload is taken as the directive's arrival. -/
theorem takePayload_encode {ref : Byte} {d : Directive} (h : d.wellFormed = true) (s : State) :
    takePayload (encodeDirective ref d) s = submit ref d s := by
  rw [takePayload, directivePayloadRoundTrip ref d h, submit, if_pos h]

/-- The two bytes of a CRC. -/
theorem crcBytes (crc : BitVec 16) : fieldBytes crc 2 = [crc.extractLsb' 8 8, crc.extractLsb' 0 8] := rfl

/-- A DIRECTIVE frame in its envelope that arrives in HUNT hands its payload on. -/
theorem receiveChars_directive {s : State} {payload : List Byte} (h : s.tli.framer = .hunt) (h1 : 1 ≤ payload.length)
    (h250 : payload.length ≤ 250) :
    receiveChars (goodChars (envelope 0x01 payload)) s = takePayload payload s := by
  have hframe := receiveChars_envelope (type := 0x01) h h1 h250
    (hi := (crc16 (frameCore 0x01 payload)).extractLsb' 8 8) (lo := (crc16 (frameCore 0x01 payload)).extractLsb' 0 8)
  rw [frameComplete_core, if_neg (by simp [crcBytes, directiveType]), setFramer_same h] at hframe
  exact hframe

/-- A part that has discarded a frame: it is counted up to 65,535 (R193). -/
def badFrame (s : State) : State :=
  { s with tli := { s.tli with
      framer := .hunt, badFrames := if s.tli.badFrames < 65535 then s.tli.badFrames + 1 else s.tli.badFrames } }

theorem discardFrame_eq (s : State) : discardFrame s = badFrame s := rfl

/-- In HUNT the discarded frame shows in the count alone. -/
theorem badFrame_hunt {s : State} (h : s.tli.framer = .hunt) :
    badFrame s =
      { s with tli := { s.tli with
          badFrames := if s.tli.badFrames < 65535 then s.tli.badFrames + 1 else s.tli.badFrames } } := by
  rw [badFrame, ← h]

/-- A command whose effect in a calm state is a discarded frame. -/
theorem handle_badFrame {s : State} {now : Stamp} {effect : State → State} (h : s.calm)
    (he : effect (atTime now s) = discardFrame (atTime now s)) : handle now effect s = .next (taken now (badFrame s)) :=
  handle_calm h (t := badFrame s) he h.1.2 rfl rfl

/-- A command whose effect in a calm state is a reply to no directive of the queue. -/
theorem handle_replyTo {s : State} {now : Stamp} {effect : State → State} {ref code : Byte} {st : Status} {r : Result}
    (h : s.calm) (he : effect (atTime now s) = replyTo ref code st r (atTime now s)) :
    handle now effect s = .next (replied now ref code st r s) := by
  obtain ⟨hdirectives, hexecuting, -⟩ := offer_keeps s.tli (.reply ⟨ref, code, st, r⟩)
  exact handle_calm h (t := replyTo ref code st r s) he h.1.2 hdirectives hexecuting

/-- A frame with a wrong CRC or another TYPE that arrives in HUNT is discarded. -/
theorem exec_frame_discarded {s : State} {now : Stamp} {type hi lo : Byte} {payload : List Byte} (hs : s.calm)
    (h : s.tli.framer = .hunt) (h1 : 1 ≤ payload.length) (h250 : payload.length ≤ 250)
    (hbad : [hi, lo] ≠ fieldBytes (crc16 (frameCore type payload)) 2 ∨ type ≠ directiveType) :
    exec (.frameReceived now (goodChars (0xA5 :: (frameCore type payload ++ [hi, lo])))) s = .next (taken now (badFrame s)) := by
  refine handle_badFrame hs ?_
  rw [receiveChars_envelope (s := atTime now s) h h1 h250, frameComplete_core, if_pos hbad]

/-- A DIRECTIVE frame that arrives in HUNT with a payload that no directive of the queue is made of. -/
theorem exec_frame_replied {s : State} {now : Stamp} {ref code : Byte} {st : Status} {payload : List Byte} (hs : s.calm)
    (h : s.tli.framer = .hunt) (h1 : 1 ≤ payload.length) (h250 : payload.length ≤ 250)
    (hj : ∀ s, takePayload payload s = replyTo ref code st .nothing s) :
    exec (.frameReceived now (goodChars (envelope 0x01 payload))) s = .next (replied now ref code st .nothing s) := by
  refine handle_replyTo hs ?_
  rw [receiveChars_directive (s := atTime now s) h h1 h250, hj]

/-- A directive that is parsed from a known code and bytes is well formed, with that code and as many bytes of parameters: the
bytes are taken off one by one until the code's layout is full. -/
theorem parseParams_some {code : Nat} {params : List Byte} {d : Directive} (h1 : 1 ≤ code) (h37 : code ≤ 0x25)
    (h : parseParams code params = some d) : d.wellFormed = true ∧ d.code.toNat = code ∧ d.params.length = params.length := by
  rcases Nat.lt_trichotomy code 4 with hlow | rfl | hhigh
  case inr.inl =>
    obtain ⟨hb, hd⟩ := Option.ite_none_right_eq_some.1 h
    cases hd
    exact ⟨hb, rfl, rfl⟩
  all_goals interval_cases code
  all_goals
    repeat
      rcases params with _ | ⟨byte, params⟩
      · cases h <;> exact ⟨rfl, rfl, rfl⟩
      try cases h

/-- A code outside 01h to 25h is unknown. -/
theorem knownCode_iff {code : Byte} : knownCode code = true ↔ 1 ≤ code.toNat ∧ code.toNat ≤ 0x25 := by
  simp [knownCode, BitVec.le_def]

theorem takePayload_unknown {ref code : Byte} {rest : List Byte} (h : code = 0 ∨ 0x25 < code.toNat) (s : State) :
    takePayload (code :: ref :: rest) s = replyTo ref code .unknownDirective .nothing s := by
  have hk : ¬ knownCode code = true := by
    rw [knownCode_iff]
    rintro ⟨h1, h2⟩
    obtain rfl | h' := h
    · exact absurd h1 (by decide)
    · omega
  rw [takePayload, judgePayload, if_neg hk]

theorem takePayload_malformed {ref code : Byte} {rest : List Byte} (h1 : 1 ≤ code.toNat) (h25 : code.toNat ≤ 0x25)
    (hlen : ∀ d : Directive, d.wellFormed = true → d.code = code → d.params.length ≠ rest.length) (s : State) :
    takePayload (code :: ref :: rest) s = replyTo ref code .malformed .nothing s := by
  have hnone : parseParams code.toNat rest = none := by
    by_contra hsome
    obtain ⟨d, hd⟩ := Option.ne_none_iff_exists'.1 hsome
    obtain ⟨hw, hc, hl⟩ := parseParams_some h1 h25 hd
    exact hlen d hw (BitVec.eq_of_toNat_eq hc) hl
  rw [takePayload, judgePayload, if_pos (knownCode_iff.2 ⟨h1, h25⟩), hnone]

/-- Settles O13: the frame is judged when its last character arrives, by its CRC, its TYPE and its payload. -/
theorem directiveFrameReceived : Obligations.DirectiveFrameReceived := by
  refine ⟨fun s now ref d h hw => ?_, fun s now type hi lo payload hs h h1 h250 hcrc => ?_,
    fun s now type payload hs h htype h1 h250 => ?_, fun s now ref code rest hs h hlen => ?_⟩
  · obtain ⟨h1, h250⟩ := encodeDirective_length (ref := ref) hw
    have hreceived : receiveChars (goodChars (envelope 0x01 (encodeDirective ref d))) (atTime now s) =
        submit ref d (atTime now s) := by
      rw [receiveChars_directive (s := atTime now s) h h1 h250, takePayload_encode hw]
    rw [exec_directiveRow, arrive, handle_next, ← hreceived]
    rfl
  · rw [← badFrame_hunt h]
    exact exec_frame_discarded hs h h1 h250 (.inl hcrc)
  · rw [← badFrame_hunt h]
    exact exec_frame_discarded hs h h1 h250 (.inr htype)
  · have hroom : (code :: ref :: rest).length ≤ 250 := by
      simp only [List.length_cons]
      omega
    refine ⟨fun hc => ?_, fun h1 h25 hd => ?_, ?_⟩
    · exact exec_frame_replied hs h (Nat.succ_pos _) hroom (takePayload_unknown hc)
    · exact exec_frame_replied hs h (Nat.succ_pos _) hroom (takePayload_malformed h1 h25 hd)
    · exact exec_frame_replied hs h (payload := [code]) (Nat.succ_pos _) (Nat.le_add_left ..) fun _ => rfl

/-! ## The framer's moves -/

/-- A character whose effect in a calm state is another state of the framer. -/
theorem exec_setFramer {s : State} {now : Stamp} {c : LinkChar} {f : Framer} (hs : s.calm)
    (he : receiveChar c (atTime now s) = setFramer f (atTime now s)) :
    exec (.characterReceived now c) s = .next (taken now { s with tli := { s.tli with framer := f } }) :=
  handle_calm hs (t := setFramer f s) he hs.1.2 rfl rfl

/-- A character that begins a frame with a LEN out of range discards it. -/
theorem receiveChar_bad_len {s : State} {c : LinkChar} (h : s.tli.framer = .inFrame []) (hc : c.data = 0 ∨ 250 < c.data.toNat) :
    receiveChar c s = discardFrame s := by
  cases hs : c.stopOk with
  | false => exact receiveChar_unstopped h hs
  | true => rw [receiveChar_inFrame h hs rfl, if_pos hc]

/-- A complete frame with a wrong TYPE or CRC is discarded: its bytes are LEN, TYPE, the payload and two of CRC. -/
theorem frameComplete_discards {s : State} {len last : Byte} {rest : List Byte} (hl : rest.length + 1 = len.toNat + 3)
    (h0 : 1 ≤ len.toNat)
    (hbad : rest.head? ≠ some 0x01 ∨
      len :: (rest ++ [last]) ≠ len :: rest.take (len.toNat + 1) ++ fieldBytes (crc16 (len :: rest.take (len.toNat + 1))) 2) :
    frameComplete (len :: (rest ++ [last])) s = discardFrame s := by
  have hcore : (len :: (rest ++ [last])).take ((len :: (rest ++ [last])).length - 2) = len :: rest.take (len.toNat + 1) := by
    have hn : (len :: (rest ++ [last])).length - 2 = len.toNat + 1 + 1 := by
      simp only [List.length_cons, List.length_append, List.length_nil]
      omega
    rw [hn, List.take_succ_cons, List.take_append_of_le_length (by omega)]
  simp only [frameComplete, hcore]
  by_cases hcrc : len :: (rest ++ [last]) =
      len :: rest.take (len.toNat + 1) ++ fieldBytes (crc16 (len :: rest.take (len.toNat + 1))) 2
  · have htype : rest.head? ≠ some 0x01 := hbad.resolve_right fun hne => hne hcrc
    rw [if_neg (by simpa using hcrc.symm)]
    cases rest with
    | nil => simp at hl
    | cons type rest =>
      have hne : type ≠ directiveType := fun he => htype (congrArg some he)
      simp [hne]
  · rw [if_pos (by simpa using fun he => hcrc (congrArg (len :: ·) he.symm))]

/-- Settles O14: the framer's moves by its state and the character, and the judgement at a frame's last one. -/
theorem framerMoves : Obligations.FramerMoves := by
  refine ⟨fun s now c hs => ⟨fun h hd hc => ?_, fun h hc => ?_, fun bytes h hc => ?_, fun h hc h0 h250 => ?_,
      fun len rest h hc h0 h250 hl => ?_, fun len rest h hc h0 h250 hl hbad => ?_⟩,
    fun s now ref hi lo d hp hw hcrc h => ?_, fun s now hs => ⟨fun h => ?_, fun bytes h => ?_⟩⟩
  · exact exec_setFramer hs (receiveChar_sync (s := atTime now s) h hd hc)
  · exact handle_calm hs (t := s) (receiveChar_hunting (s := atTime now s) h hc) hs.1.2 rfl rfl
  · refine handle_badFrame hs ?_
    obtain hc | ⟨rfl, hc⟩ := hc
    · exact receiveChar_unstopped (s := atTime now s) h hc
    · exact receiveChar_bad_len (s := atTime now s) h hc
  · exact exec_setFramer hs (receiveChar_join (s := atTime now s) h hc rfl h0 h250 (Nat.succ_pos _))
  · refine exec_setFramer hs (receiveChar_join (s := atTime now s) h hc rfl h0 h250 ?_)
    exact (List.length_append ..).trans_lt hl
  · refine handle_badFrame hs ?_
    have hlast := receiveChar_last (s := atTime now s) h hc rfl h0 h250 ((List.length_append ..).trans hl)
    exact hlast.trans (frameComplete_discards hl h0 hbad)
  · obtain ⟨h1, h250⟩ := encodeDirective_length (ref := ref) hw
    have hlen := len_toNat h250
    have hlast := receiveChar_last (s := atTime now s) (c := ⟨lo, true⟩) (rest := 0x01 :: encodeDirective ref d ++ [hi, lo]) h rfl
      (by simp) (hlen.symm ▸ h1) (hlen.symm ▸ h250)
      (by rw [hlen]; simp only [List.length_append, List.length_cons, List.length_nil])
    have hjudged := frameComplete_core 0x01 hi lo (encodeDirective ref d) (atTime now s)
    rw [if_neg (fun hbad => hbad.elim (fun hne => hne hcrc.symm) fun hne => hne rfl), takePayload_encode hw] at hjudged
    have hreceived : receiveChar ⟨lo, true⟩ (atTime now s) =
        submit ref d (atTime now { s with tli := { s.tli with framer := .hunt } }) := hlast.trans hjudged
    rw [exec_directiveRow, arrive, handle_next, ← hreceived, if_pos hp]
    exact (handle_next now (receiveChar ⟨lo, true⟩) s).trans (congrArg _ (if_pos hp))
  · exact handle_calm hs (t := s) (by simp [gapPassed, h]) hs.1.2 rfl rfl
  · exact handle_badFrame hs (by simp [gapPassed, h])

/-! ## The arbiter -/

/-- The end of a frame in a calm state: the arbiter chooses among what waits. -/
theorem exec_transmitFrameEnd {s : State} {now : Stamp} {t : Tli} (hs : s.calm)
    (ht : Tli.choose { s.tli with sending := none } = t) (hd : t.directives = s.tli.directives)
    (hx : t.executing = s.tli.executing) :
    exec (.transmitFrameEnd now) s = .next (taken now { s with tli := t }) := by
  refine handle_calm hs (t := { s with tli := t }) ?_ hs.1.2 hd hx
  rw [← ht]
  rfl

/-- Settles O15: the arbiter's choice by what waits, and an offer to a busy transmitter. -/
theorem framesAreQueuedAndChosen : Obligations.FramesAreQueuedAndChosen := by
  refine ⟨fun s now hs => ⟨fun f rest hq => ?_, fun w hq hw => ?_, fun m hq hw hm => ?_, fun hq hw hm => ?_⟩,
    fun s f g hg => ⟨fun hroom => ?_, fun hfull => ?_⟩⟩
  · exact exec_transmitFrameEnd hs (by simp only [Tli.choose, hq]) rfl rfl
  · exact exec_transmitFrameEnd hs (by simp only [Tli.choose, hq, hw]) rfl rfl
  · exact exec_transmitFrameEnd hs (by simp only [Tli.choose, hq, hw, hm]) rfl rfl
  · exact exec_transmitFrameEnd hs (by simp only [Tli.choose, hq, hw, hm]) rfl rfl
  · rw [offer, offer_joins f hg hroom]
  · rw [offer, offer_drops f hg (by omega)]

/-! ## A busy queue -/

/-- A command whose effect leaves a directive in execution: the others wait. -/
theorem handle_executing {s t : State} {now : Stamp} {effect : State → State} (hp : s.powered = true)
    (he : effect (atTime now s) = atTime now t) (hc : t.stc.checking = false) (hx : t.tli.executing = true) :
    handle now effect s = .next (taken now t) := by
  rw [handle_next, if_pos hp, he, finish_held (s := atTime now t) hc hx]
  rfl

/-- Settles O16: what is admitted waits behind the directive that holds the queue. -/
theorem arrivalAtBusyQueue : Obligations.ArrivalAtBusyQueue := by
  intro s now ref d hs hx
  simp only [exec_directiveRow, arrive]
  refine ⟨fun hw hroom => ?_, fun hw hfull => ?_, fun hw => ?_⟩
  · refine handle_executing hs.1 (t := { s with tli := { s.tli with directives := s.tli.directives ++ [⟨ref, d⟩] } }) ?_ hs.2 hx
    rw [submit, if_pos hw]
    exact if_neg (Nat.not_le.2 hroom)
  · exact handle_replyTo ⟨hs, .inr hx⟩ (by rw [submit, if_pos hw]; exact if_pos hfull)
  · exact handle_replyTo ⟨hs, .inr hx⟩ (by rw [submit, if_neg (by simp [hw])])

end Sys2Proof.Machine
end

section
/-! SUPPORT. Run Control (R207 to R209): what a directive that offers frames before its reply, or that holds the queue, leaves
behind; START, HALT, the run states reached by themselves, and RESTART. -/

namespace Sys2Proof.Machine

/-! ## Directives that offer frames or hold the queue -/

/-- The outputs do not follow what is offered. -/
theorem refreshLights_offer (f : Frame) (s : State) : refreshLights (offer f s) = offer f (refreshLights s) := rfl

/-- A directive answered at once behind a frame it offers first. -/
theorem arrive_offered {s t u : State} (f : Frame) (hs : s.ready) (ht : t.ready) {now : Stamp} {ref : Byte} {d : Directive}
    {st : Status} {r : Result} (hw : d.wellFormed = true) (hlit : refreshLights u = queued now ref d t)
    (hrun : runDirective d (queued now ref d s) = answer st r (offer f u)) :
    arrive now ref d s = .next (replied now ref d.code st r (offer f t)) :=
  arrive_replied_refreshed (u := offer f u) hs (offer_ready ht f) hw ((congrArg (offer f) hlit).trans (offer_queued ..)) hrun

/-- The arbiter does not see whether a directive holds the queue. -/
theorem choose_executing (t : Tli) (x : Bool) : Tli.choose { t with executing := x } = { t.choose with executing := x } := by
  rcases t with ⟨_, _, _, _, _, _, classA, weight, sample, sending, _, _, _, _⟩
  cases sending with
  | some f => rfl
  | none =>
    cases classA with
    | cons f rest => rfl
    | nil =>
      cases weight with
      | some w => rfl
      | none => cases sample <;> rfl

/-- An offer is the same whether or not a directive holds the queue. -/
theorem offer_executing (f : Frame) (t : Tli) (x : Bool) :
    Tli.offer f { t with executing := x } = { t.offer f with executing := x } := by
  by_cases hroom : t.classA.length < Config.classACapacity
  · simp only [Tli.offer, hroom, if_true]
    exact choose_executing { t with classA := t.classA ++ [f] } x
  · simp only [Tli.offer, hroom, if_false]
    exact choose_executing { t with overflow := true } x

theorem holdQueue_offer (f : Frame) (s : State) : holdQueue (offer f s) = offer f (holdQueue s) := by
  have hlink : (holdQueue s).tli.offer f = (holdQueue (offer f s)).tli := offer_executing f s.tli true
  rw [offer.eq_def f (holdQueue s), hlink]
  rfl

/-- A directive that begins work holds the queue on a ready part. -/
theorem arrive_holding {s t u : State} (hs : s.ready) {now : Stamp} {ref : Byte} {d : Directive} (hw : d.wellFormed = true)
    (hlit : refreshLights u = queued now ref d t) (hrun : runDirective d (queued now ref d s) = holdQueue u) :
    arrive now ref d s = .next (holding now ref d t) := by
  have hheld : refreshLights (holdQueue u) = holdQueue (queued now ref d t) := congrArg holdQueue hlit
  rw [arrive_ready hs now ref hw, hrun, hheld]
  rfl

/-- A directive that holds the queue behind a frame it offers first. -/
theorem arrive_holding_offered {s t u : State} (f : Frame) (hs : s.ready) {now : Stamp} {ref : Byte} {d : Directive}
    (hw : d.wellFormed = true) (hlit : refreshLights u = queued now ref d t)
    (hrun : runDirective d (queued now ref d s) = holdQueue (offer f u)) :
    arrive now ref d s = .next (holding now ref d (offer f t)) :=
  arrive_holding (u := offer f u) hs hw ((congrArg (offer f) hlit).trans (offer_queued ..)) hrun

/-! ## The end of work that held the queue -/

/-- A frame offered while a directive holds the queue is offered as well where it has left it. -/
theorem offer_freed (f : Frame) (s : State) : freed (offer f s) = offer f (freed s) := by
  have hlink := offer_unqueued f s.tli
  simp only [Tli.unqueued] at hlink
  simp only [freed, offer, hlink]

/-- An offered frame leaves a directive in its hold of the queue. -/
theorem offer_held {s : State} {ref : Byte} {d : Directive} (h : s.held ref d) (f : Frame) : (offer f s).held ref d := by
  obtain ⟨hawake, hd, hx⟩ := h
  obtain ⟨hdirectives, hexecuting, -⟩ := offer_keeps s.tli f
  exact ⟨hawake, hdirectives.trans hd, hexecuting.trans hx⟩

/-- The end of the work of a directive that holds the queue: its reply is offered, and the directive has left. -/
theorem handle_answered {s t : State} {now : Stamp} {effect : State → State} {ref : Byte} {d : Directive} {st : Status}
    {r : Result} (h : s.held ref d) (ht : t.held ref d) (he : effect (atTime now s) = answerHeld st r (atTime now t)) :
    handle now effect s = .next (replied now ref d.code st r (freed t)) := by
  obtain ⟨⟨-, hc⟩, hd, hx⟩ := ht
  exact handle_held h (he.trans (answerHeld_only (s := atTime now t) st r hd hx)) hc (offer_keeps _ _).1

/-! ## START -/

/-- A change of run state, with its event. -/
theorem setRunState_from {s : State} {before : RunState} (h : s.rnc.runState = before) (next : RunState) :
    setRunState next s =
      offer (.event s.ylu.timebase (.runStateChanged before next)) { s with rnc := { s.rnc with runState := next } } := by
  rw [← h]
  rfl

/-- Row 1 of START's rule. -/
theorem start_running {s : State} (h : s.rnc.runState ≠ .halted) : start s = answer .wrongState .nothing s := by
  rw [start, if_pos (by simpa using h)]

/-- START without a calibration area. -/
theorem start_uncalibrated {s : State} (h : s.rnc.runState = .halted) (hc : s.stc.damaged.calibration = true) :
    start s = answer .noCalibration .nothing s := by
  simp [start, h, State.calibrationDamaged, hc]

/-- START that is carried out. -/
theorem start_done {s : State} (h : s.rnc.runState = .halted) (hc : s.stc.damaged.calibration = false) :
    start s =
      answer .done .nothing (offer (.event s.ylu.timebase (.runStateChanged .halted .warmup))
        { reloadDecks (setClc (s.clc.started s.committed.pollList s.ylu.timebase) s) with
          rnc := { s.rnc with runState := .warmup, warmupCount := 0, warmupLength := s.committed.warmupLength } }) := by
  rw [start, if_neg (by simp [h]), if_neg (by simp [State.calibrationDamaged, hc])]
  dsimp only
  rw [setRunState_from (before := .halted) (by exact h)]
  rfl

/-- Settles O17: the rows of START, the last with the RUN_STATE_CHANGED before the reply. -/
theorem startEntersWarmup : Obligations.StartEntersWarmup := by
  refine fun s now ref h => ⟨fun hr => ?_, fun hr hc => ?_, fun hr hc => ?_⟩
  · exact arrive_replied h h (d := .start) rfl (start_running (s := queued now ref _ s) hr)
  · exact arrive_replied h h (d := .start) rfl (start_uncalibrated (s := queued now ref _ s) hr hc)
  · refine arrive_offered _ h ?_ (d := .start) rfl ?_ (start_done (s := queued now ref .start s) hr hc)
    · exact h
    · simp only [Clc.started, List.contains_iff_mem]
      rfl

/-! ## HALT -/

/-- The part with another state of the cell line, the yard lines and the terminal link. -/
def withCells (c : Clc) (y : Ylu) (t : Tli) (s : State) : State := { s with clc := c, ylu := y, tli := t }

theorem axlesUnder_withCells (old : CalSet) (c : Clc) (y : Ylu) (t : Tli) (s : State) :
    axlesUnder old (withCells c y t s) = withCells c y t (axlesUnder old s) := by
  simp only [axlesUnder, apply_ite (withCells c y t)]
  rfl

/-- The end of calibration mode, with the staged set it discards. -/
theorem endCalibration_some {s : State} {staged : CalSet} (h : s.clu.staged = some staged) :
    endCalibration s = setChanged staged true (withStaged none s) := by
  simp only [endCalibration, h, withStaged]

/-- The end of calibration mode neither reads nor writes the cell line, the yard lines and the terminal link. -/
theorem endCalibration_withCells (c : Clc) (y : Ylu) (t : Tli) (s : State) :
    endCalibration (withCells c y t s) = withCells c y t (endCalibration s) := by
  cases hstaged : s.clu.staged with
  | none => simp only [endCalibration, withCells, hstaged]
  | some staged =>
    rw [endCalibration_some (s := withCells c y t s) hstaged, endCalibration_some hstaged]
    exact axlesUnder_withCells staged c y t (weighUnder staged true (withStaged none s))

/-- The part after HALT is taken, with the nodes it has still to tell NORMAL and its run state (R208). -/
def stopped (nodes : List Nat) (next : RunState) (s : State) : State :=
  { endCalibration s with
    clc := { s.clc with
      scanTimer := none, scan := none, scanPending := false, attempt := none, haltTodo := nodes
      nodes := s.clc.nodes.map fun r => if r.inReference then { r with mode := .normal, delivered := false } else r }
    vfu := { s.vfu with session := none }
    rnc := { s.rnc with warmupCount := 0, runState := next } }

/-- What HALT does at once, but for the run state. -/
theorem stopRun_eq (s : State) : stopRun s = stopped s.clc.strayNodes s.rnc.runState s := by
  have h := endCalibration_withCells (stopped s.clc.strayNodes s.rnc.runState s).clc s.ylu s.tli s
  rw [endCalibration_eq s] at h
  rw [stopRun, stopped, endCalibration_eq s]
  exact congrArg (fun t => { setSession none t with rnc := { t.rnc with warmupCount := 0 } }) h

theorem endCalibration_queued (now : Stamp) (ref : Byte) (d : Directive) (s : State) :
    endCalibration (queued now ref d s) = withCells s.clc (queued now ref d s).ylu (queued now ref d s).tli (endCalibration s) :=
  endCalibration_withCells s.clc _ _ s

/-- The outputs follow what HALT stops, taken while a directive is judged, as they follow it taken before it arrived. -/
theorem refreshLights_stopped_queued (nodes : List Nat) (next : RunState) (now : Stamp) (ref : Byte) (d : Directive)
    (s : State) :
    refreshLights (stopped nodes next (queued now ref d s)) = queued now ref d (stopped nodes next s) := by
  rw [stopped, endCalibration_queued, stopped, endCalibration_eq s]
  rfl

theorem stopped_timebase (nodes : List Nat) (next : RunState) (s : State) :
    (stopped nodes next s).ylu.timebase = s.ylu.timebase := by
  rw [stopped, endCalibration_eq]

theorem stopped_psu (nodes : List Nat) (next : RunState) (s : State) : (stopped nodes next s).psu = s.psu := by
  rw [stopped, endCalibration_eq]

theorem stopped_stc (nodes : List Nat) (next : RunState) (s : State) : (stopped nodes next s).stc = s.stc := by
  rw [stopped, endCalibration_eq]

/-- What HALT stops keeps a part ready. -/
theorem stopped_ready {s : State} (h : s.ready) (nodes : List Nat) (next : RunState) : (stopped nodes next s).ready := by
  rw [stopped, endCalibration_eq]
  exact h

/-- The entry to HALTED without a passage. -/
theorem enterHalted_idle {s : State} {before : RunState} (hr : s.rnc.runState = before) (h : s.psu.passage = none) :
    enterHalted s =
      offer (.event s.ylu.timebase (.runStateChanged before .halted))
        { s with rnc := { s.rnc with runState := .halted }, psu := { s.psu with captureTimer := none } } := by
  rw [enterHalted, discardPassage, h]
  exact setRunState_from (s := stopCaptureTimer s) hr .halted

/-- The entry to HALTED discards a passage. -/
theorem enterHalted_passage {s : State} {before : RunState} {p : Passage} (hr : s.rnc.runState = before)
    (h : s.psu.passage = some p) :
    enterHalted s =
      offer (.event s.ylu.timebase (.runStateChanged before .halted))
        (offer (.passage { after := none, before := some p.state, cause := .halt, record := p, stamp := none })
          { s with
            rnc := { s.rnc with runState := .halted }, psu := { s.psu with passage := none, captureTimer := none }
            axm := .cleared }) := by
  rw [enterHalted, discardPassage, h]
  exact setRunState_from (s := endPassage .halt none p s) hr .halted

/-- HALT outside WARMUP and RUN. -/
theorem halt_stopped {s : State} (h : s.rnc.runState = .halted ∨ s.rnc.runState = .halting) :
    halt s = answer .wrongState .nothing s := by
  rcases h with h | h <;> simp [halt, h]

/-- HALT in WARMUP and RUN ends at once or goes on in HALTING. -/
theorem halt_running {s : State} (h : s.rnc.runState = .warmup ∨ s.rnc.runState = .run) :
    halt s =
      if (stopRun s).haltsAtOnce then
        answer .done .nothing (enterHalted (setClc { (stopRun s).clc with haltTodo := [] } (stopRun s)))
      else haltGoesOn (holdQueue (setRunState .halting (stopRun s))) := by
  rcases h with h | h <;> simp [halt, h]

/-- HALT with nothing in flight and no node to poll. -/
theorem halt_at_once {s : State} (h : s.rnc.runState = .warmup ∨ s.rnc.runState = .run) (hq : s.stc.queue = [])
    (hn : s.clc.strayNodes = [] ∨ s.clc.line = .broken) :
    halt s = answer .done .nothing (enterHalted (stopped [] s.rnc.runState s)) := by
  have hover : (stopRun s).haltsAtOnce = true := by
    rw [stopRun_eq, stopped, endCalibration_eq]
    simpa [State.haltsAtOnce, hq] using hn
  rw [halt_running h, if_pos hover, stopRun_eq]
  rfl

/-- HALT that goes on in HALTING. -/
theorem halt_goes_on {s : State} (h : s.rnc.runState = .warmup ∨ s.rnc.runState = .run)
    (hn : s.stc.queue ≠ [] ∨ s.clc.strayNodes ≠ [] ∧ s.clc.line ≠ .broken) :
    halt s =
      haltGoesOn (holdQueue (offer (.event s.ylu.timebase (.runStateChanged s.rnc.runState .halting))
        (stopped s.clc.strayNodes .halting s))) := by
  have hover : (stopRun s).haltsAtOnce = false := by
    rw [stopRun_eq, stopped, endCalibration_eq]
    simp only [State.haltsAtOnce, Bool.and_eq_false_iff, Bool.or_eq_false_iff, List.isEmpty_eq_false_iff, beq_eq_false_iff_ne]
    exact hn
  have hstate := setRunState_from (s := stopped s.clc.strayNodes s.rnc.runState s) (before := s.rnc.runState) rfl .halting
  rw [halt_running h, if_neg (by simp [hover]), stopRun_eq, hstate, stopped, endCalibration_eq s]
  rw [stopped, endCalibration_eq s]

/-- A node that HALT has to tell NORMAL carries that command. -/
theorem stopped_command {s : State} {n : Nat} (h : (s.clc.node n).inReference = true) (nodes : List Nat) (next : RunState) :
    ((stopped nodes next s).clc.node n).delivered = false ∧ ((stopped nodes next s).clc.node n).mode = .normal := by
  simp only [Clc.node, stopped, List.getD_eq_getElem?_getD, List.getElem?_map] at h ⊢
  cases hr : s.clc.nodes[n - 1]? with
  | none => exact ⟨rfl, rfl⟩
  | some r =>
    rw [hr, Option.getD_some] at h
    simp [h]

/-- HALT's first poll. -/
theorem haltGoesOn_polls {s : State} {n : Nat} {rest : List Nat} (hr : s.rnc.runState = .halting) (hq : s.stc.queue = [])
    (ha : s.clc.attempt = none) (hn : s.clc.haltTodo = n :: rest) (hl : s.clc.line = .normal)
    (hd : (s.clc.node n).delivered = false) (hm : (s.clc.node n).mode = .normal) :
    haltGoesOn s =
      setClc { s.clc with haltTodo := rest, attempt := some { node := n, number := 1, command := .normal } } s := by
  have hnode : ∀ c : Clc, c.nodes = s.clc.nodes → c.node n = s.clc.node n := fun c hc => by simp only [Clc.node, hc]
  rw [haltGoesOn, if_pos (by simp [hr, hq, ha]), pollStrays, hn]
  simp only [hl, pollNode, setClc, reduceCtorEq, if_false, hnode, hd, hm, NodeMode.command]
  rfl

/-- HALT at once without a passage. -/
theorem halt_idle {s : State} (h : s.rnc.runState = .warmup ∨ s.rnc.runState = .run) (hq : s.stc.queue = [])
    (hn : s.clc.strayNodes = [] ∨ s.clc.line = .broken) (hp : s.psu.passage = none) :
    halt s =
      answer .done .nothing (offer (.event s.ylu.timebase (.runStateChanged s.rnc.runState .halted))
        { stopped [] .halted s with psu := { s.psu with captureTimer := none } }) := by
  have hidle := enterHalted_idle (s := stopped [] s.rnc.runState s) (before := s.rnc.runState) rfl
    ((congrArg Psu.passage (stopped_psu ..)).trans hp)
  rw [stopped_timebase, stopped_psu] at hidle
  exact (halt_at_once h hq hn).trans (congrArg _ hidle)

/-- HALT at once with a passage. -/
theorem halt_discards {s : State} {p : Passage} (h : s.rnc.runState = .warmup ∨ s.rnc.runState = .run) (hq : s.stc.queue = [])
    (hn : s.clc.strayNodes = [] ∨ s.clc.line = .broken) (hp : s.psu.passage = some p) :
    halt s =
      answer .done .nothing (offer (.event s.ylu.timebase (.runStateChanged s.rnc.runState .halted))
        (offer (.passage { after := none, before := some p.state, cause := .halt, record := p, stamp := none })
          { stopped [] .halted s with psu := { s.psu with passage := none, captureTimer := none }, axm := .cleared })) := by
  have hdiscard :=
    enterHalted_passage (s := stopped [] s.rnc.runState s) (before := s.rnc.runState) rfl
      ((congrArg Psu.passage (stopped_psu ..)).trans hp)
  rw [stopped_timebase, stopped_psu] at hdiscard
  exact (halt_at_once h hq hn).trans (congrArg _ hdiscard)

/-- HALT behind an update in flight. -/
theorem halt_waits {s : State} (h : s.rnc.runState = .warmup ∨ s.rnc.runState = .run) (hq : s.stc.queue ≠ []) :
    halt s =
      holdQueue (offer (.event s.ylu.timebase (.runStateChanged s.rnc.runState .halting))
        (stopped s.clc.strayNodes .halting s)) := by
  refine (halt_goes_on h (.inl hq)).trans (if_neg ?_)
  rw [stopped, endCalibration_eq s]
  simp [holdQueue, hq]

/-- The part that polls a node with NORMAL. -/
def tellingNormal (n : Nat) (s : State) : State :=
  { s with clc := { s.clc with attempt := some { node := n, number := 1, command := .normal } } }

/-- HALT with a node to tell NORMAL. -/
theorem halt_polls {s : State} {n : Nat} {rest : List Nat} (h : s.rnc.runState = .warmup ∨ s.rnc.runState = .run)
    (hq : s.stc.queue = []) (hn : s.clc.strayNodes = n :: rest) (hl : s.clc.line = .normal) :
    halt s =
      holdQueue (offer (.event s.ylu.timebase (.runStateChanged s.rnc.runState .halting))
        (tellingNormal n (stopped rest .halting s))) := by
  have hstray : (s.clc.node n).inReference = true := by
    have hmem : n ∈ s.clc.strayNodes := hn ▸ List.mem_cons_self
    exact (List.mem_filter.1 hmem).2
  obtain ⟨hd, hm⟩ := stopped_command hstray (n :: rest) .halting
  rw [halt_goes_on h (.inr ⟨by simp [hn], by simp [hl]⟩), hn]
  exact haltGoesOn_polls (s := holdQueue (offer _ (stopped (n :: rest) .halting s))) rfl
    ((congrArg Stc.queue (stopped_stc (n :: rest) .halting s)).trans hq) rfl rfl hl hd hm

/-- Settles O18: HALT by run state, by what is in flight, by the nodes to tell NORMAL and by the passage. -/
theorem haltStopsTheRun : Obligations.HaltStopsTheRun := by
  intro s now ref h strays quiet
  refine ⟨fun hr => ?_, fun hr hq hn hp => ?_, fun p hr hq hn hp => ?_, fun hr hq => ?_, fun n rest hr hq hn hl => ?_⟩
  · exact arrive_replied h h (d := .halt) rfl (halt_stopped (s := queued now ref _ s) hr)
  · refine arrive_offered (t := { stopped [] .halted s with psu := { s.psu with captureTimer := none } }) _ h
      (stopped_ready h [] .halted) (d := .halt) rfl ?_ (halt_idle (s := queued now ref .halt s) hr hq hn hp)
    rw [stopped, endCalibration_queued, stopped, endCalibration_eq s]
    rfl
  · refine arrive_offered (t := offer _ { stopped [] .halted s with psu := { s.psu with passage := none, captureTimer := none }, axm := .cleared }) _ h
      (offer_ready (stopped_ready h [] .halted) _) (d := .halt) rfl ?_ (halt_discards (s := queued now ref .halt s) hr hq hn hp)
    rw [refreshLights_offer, ← offer_queued, stopped, endCalibration_queued, stopped, endCalibration_eq s]
    rfl
  · exact arrive_holding_offered _ h (d := .halt) rfl (refreshLights_stopped_queued ..)
      (halt_waits (s := queued now ref .halt s) hr hq)
  · exact arrive_holding_offered (u := tellingNormal n (stopped rest .halting (queued now ref .halt s))) _ h (d := .halt) rfl
      (congrArg (tellingNormal n) (refreshLights_stopped_queued rest .halting now ref .halt s))
      (halt_polls (s := queued now ref .halt s) hr hq hn hl)

end Sys2Proof.Machine
end

section
/-! SUPPORT. The run states reached by themselves and RESTART (R207 to R209), PUT_SITE (R210), the clock (R211), power and
the store check (R214, R215), and READ_STATUS (R202). -/

namespace Sys2Proof.Machine

/-! ## The run states reached by themselves -/

/-- The handoff that completes warm-up. -/
theorem warmupEnds_run {s : State} (h : s.rnc.runState = .warmup) (hn : s.rnc.warmupLength ≤ s.rnc.warmupCount + 1) :
    warmupEnds s =
      offer (.event s.ylu.timebase (.runStateChanged .warmup .run))
        { s with rnc := { s.rnc with runState := .run, warmupCount := s.rnc.warmupCount + 1 } } := by
  rw [warmupEnds, if_pos hn, countWarmup, if_pos (by simp [h])]
  dsimp only
  rw [if_pos hn, setRunState_from (before := .warmup) (by exact h)]

/-- Before that handoff warm-up does not end. -/
theorem warmupEnds_early {s : State} (h : s.rnc.runState ≠ .warmup ∨ s.rnc.warmupCount + 1 < s.rnc.warmupLength) :
    warmupEnds s = s := by
  rcases h with h | h
  · rw [warmupEnds, countWarmup, if_neg (c := (_ == _) = true) (by simpa using h), ite_self]
  · rw [warmupEnds, if_neg (by omega)]

/-- A command that is no occurrence, in a calm state. -/
theorem handle_nothing {s : State} {now : Stamp} {effect : State → State} (h : s.calm) (he : effect (atTime now s) = atTime now s) :
    handle now effect s = .next (taken now s) :=
  handle_calm h he h.1.2 rfl rfl

/-- Nothing is left of HALTING. -/
theorem haltOver_iff {s : State} :
    s.haltOver = true ↔ s.rnc.runState = .halting ∧ s.stc.queue = [] ∧ s.clc.attempt = none ∧ s.clc.haltTodo = [] := by
  simp [State.haltOver, and_assoc]

/-- HALTING_END once nothing is left. -/
theorem haltingEnds_over {s : State} (hr : s.rnc.runState = .halting) (hq : s.stc.queue = []) (ha : s.clc.attempt = none)
    (hn : s.clc.haltTodo = []) : haltingEnds s = answerHeld .done .nothing (enterHalted s) :=
  if_pos (haltOver_iff.2 ⟨hr, hq, ha, hn⟩)

/-- Settles O19: the end of warm-up and of HALTING, each with the states in which it does not come. -/
theorem runStateMovesOn : Obligations.RunStateMovesOn := by
  refine ⟨fun s now h hr hn => ?_, fun s now h hn => ?_, fun s now ref h hr hq ha hn hp => ?_,
    fun s now ref p h hr hq ha hn hp => ?_, fun s now ref h hr hn => ?_⟩
  · exact handle_calm h (t := offer _ _) (warmupEnds_run (s := atTime now s) hr hn) h.1.2 (offer_keeps ..).1 (offer_keeps ..).2.1
  · exact handle_nothing h (warmupEnds_early (s := atTime now s) hn)
  · have hend := haltingEnds_over (s := atTime now s) hr hq ha hn
    rw [enterHalted_idle (s := atTime now s) hr hp] at hend
    rw [← offer_freed]
    refine handle_answered (effect := haltingEnds) (d := .halt) h (offer_held (s := { s with
      rnc := { s.rnc with runState := .halted }, psu := { s.psu with captureTimer := none } }) h _) hend
  · have hend := haltingEnds_over (s := atTime now s) hr hq ha hn
    rw [enterHalted_passage (s := atTime now s) hr hp] at hend
    rw [← offer_freed, ← offer_freed]
    exact handle_answered (effect := haltingEnds) (d := .halt) h (offer_held (offer_held (s := { s with
      rnc := { s.rnc with runState := .halted }, psu := { s.psu with passage := none, captureTimer := none }
      axm := .cleared }) h _) _) hend
  · refine handle_nothing (held_calm h) (if_neg fun hover => ?_)
    obtain ⟨-, hq, ha, ht⟩ := haltOver_iff.1 hover
    exact hn.elim (· hq) fun hn => hn.elim (· ha) (· ht)

/-! ## RESTART -/

theorem fresh_eq (p : Prop) [Decidable p] (b : Bool) (h : b = true ↔ p) :
    NodeRecord.fresh b =
      { state := if p then .searching else .unassigned
        missed := 0, lastError := none, errorCount := 0, lastSequence := none, mode := .normal, delivered := true } := by
  simp [NodeRecord.fresh, h]

/-- The decks that either reset gives. -/
theorem resetDeck_eq (s : State) (i : Nat) :
    (if s.calibrationDamaged || (s.committed.deck i).mask == 0 then none else some (Deck.fresh (s.committed.deck i).zeroCal)) =
      if s.stc.damaged.calibration = true ∨ (s.committed.deck i).mask = 0 then none
      else some (.fresh (s.committed.deck i).zeroCal) := by
  simp [State.calibrationDamaged]

/-- The nodes and decks that either reset gives. -/
theorem resetNodes_eq (s : State) :
    resetNodes s = { s with
      clc :=
        { Clc.powerOn with
          nodes := (List.range 16).map fun i =>
            { state := if s.stc.damaged.calibration = false ∧ (i + 1) ∈ s.committed.pollList then .searching else .unassigned
              missed := 0, lastError := none, errorCount := 0, lastSequence := none, mode := .normal, delivered := true } }
      wge :=
        { decks := (List.range 4).map fun i =>
            if s.stc.damaged.calibration = true ∨ (s.committed.deck i).mask = 0 then none
            else some (.fresh (s.committed.deck i).zeroCal)
          latest := none
          streamCount := 0 } } := by
  have hnode := fun i : Nat => fresh_eq (s.stc.damaged.calibration = false ∧ (i + 1) ∈ s.committed.pollList)
    (!s.calibrationDamaged && s.committed.pollList.contains (i + 1)) (by simp [State.calibrationDamaged])
  simp only [resetNodes, hnode, resetDeck_eq, Wge.powerOn]

/-- Every block in the restart state of its reset table, before the reply (R209). -/
def restarted (s : State) : State :=
  { s with
    clc :=
      { Clc.powerOn with
        nodes := (List.range 16).map fun i =>
          { state := if s.stc.damaged.calibration = false ∧ (i + 1) ∈ s.committed.pollList then .searching else .unassigned
            missed := 0, lastError := none, errorCount := 0, lastSequence := none, mode := .normal, delivered := true } }
    wge :=
      { decks := (List.range 4).map fun i =>
          if s.stc.damaged.calibration = true ∨ (s.committed.deck i).mask = 0 then none
          else some (.fresh (s.committed.deck i).zeroCal)
        latest := none
        streamCount := 0 }
    ylu := s.ylu.restart
    axm := .cleared
    psu := { passage := none, counter := 0, captureTimer := none }
    clu := { staged := none, openingRecorded := false }
    vfu := { s.vfu with session := none }
    tli := s.tli.restart
    rnc := { s.rnc with runState := .halted, warmupCount := 0 }
    stc := { s.stc with queue := s.stc.queue.map (·.orphaned) } }

theorem restartBlocks_eq (s : State) : restartBlocks s = restarted s := resetNodes_eq _

/-- RESTART at the head of the directive queue. -/
theorem restart_cons {s : State} {ref : Byte} {waiting : List Queued} (h : s.tli.directives = ⟨ref, .restart⟩ :: waiting) :
    restart s =
      if s.rnc.runState = .halted then replyTo ref 0x03 .done (.count waiting.length) (restarted s)
      else offer (.event s.ylu.timebase (.runStateChanged s.rnc.runState .halted))
        (replyTo ref 0x03 .done (.count waiting.length) (restarted s)) := by
  simp only [restart, h, restartBlocks_eq, beq_iff_eq]
  rfl

/-- The link of a ready part after RESTART, before its reply. -/
theorem restart_link {s : State} (h : s.ready) (now : Stamp) (ref : Byte) (d : Directive) :
    (queued now ref d s).tli.restart =
      { s.tli with
        badFrames := 0, classA := [], weightSlot := none, sampleSlot := none, overflow := false, scanOverrun := false } := by
  rw [← queued_unqueued h now ref d]
  rfl

/-- The outputs follow the restarted blocks, a directive's arrival forgotten. -/
theorem refreshLights_restarted {s : State} {t : Tli} (now : Stamp) (ref : Byte) (d : Directive)
    (ht : (queued now ref d s).tli.restart = t) :
    refreshLights (restarted (queued now ref d s)) =
      taken now { restarted s with ylu := (atTime now s).ylu.restart, tli := t } := by
  rw [← ht]
  rfl

/-- RESTART's two frames, the reply first. -/
theorem restart_link_sending {s : State} {g : Frame} (f : Frame) (hg : s.tli.sending = some g) :
    s.tli.restart.offer f = { s.tli.restart with classA := [f] } :=
  offer_joins (t := s.tli.restart) f hg (by simp [Tli.restart])

/-- Settles O20: the restart states of the blocks, and the reply as the first frame of the emptied queue. -/
theorem restartResetsTheBlocks : Obligations.RestartResetsTheBlocks := by
  refine ⟨fun s now ref h => ?_, fun s ref waiting h => ⟨?_, ?_, fun g hg => ?_, ?_⟩⟩
  · have hlit := refreshLights_restarted now ref .restart (restart_link h now ref .restart)
    refine (arrive_ready h now ref (d := .restart) rfl).trans (congrArg _ ?_)
    rw [runDirective, restart_cons (s := queued now ref .restart s) rfl, apply_ite refreshLights, refreshLights_offer, replyTo, refreshLights_offer, hlit]
    by_cases hr : s.rnc.runState = .halted
    · rw [if_pos hr, if_pos (by exact hr)]
      rfl
    · rw [if_neg hr, if_neg (by exact hr)]
      rfl
  · rw [restart_cons h]
    split_ifs
    · exact (offer_keeps ..).1
    · exact (offer_keeps ..).1.trans (offer_keeps ..).1
  · rw [restart_cons h]
    split_ifs
    · exact (offer_keeps ..).2.1
    · exact (offer_keeps ..).2.1.trans (offer_keeps ..).2.1
  · have hreply := restart_link_sending (.reply ⟨ref, 0x03, .done, .count waiting.length⟩) hg
    rw [restart_cons h]
    split_ifs
    · exact ⟨congrArg Tli.classA hreply, (congrArg Tli.sending hreply).trans hg⟩
    · have hevent := (congrArg (Tli.offer (.event s.ylu.timebase (.runStateChanged s.rnc.runState .halted))) hreply).trans
        (offer_joins _ hg (by simp))
      exact ⟨congrArg Tli.classA hevent, (congrArg Tli.sending hevent).trans hg⟩
  · rw [restart_cons h, restart_cons (ref := ref) (waiting := []) rfl]
    split_ifs <;> rfl

/-! ## PUT_SITE -/

/-- The first element that meets a condition, mapped. -/
theorem find_map_cons {α β : Type} (p : α → Bool) (f : α → β) (a : α) (l : List α) :
    ((a :: l).find? p).map f = if p a = true then some (f a) else (l.find? p).map f := by
  rw [List.find?_cons]
  cases p a <;> rfl

/-- A field of one byte. -/
theorem siteField_one (block : List Byte) (i : Nat) : siteField block i 1 = (block.getD i 0).toNat := rfl

/-- A field of two bytes, the high byte first. -/
theorem siteField_two (block : List Byte) (i : Nat) :
    siteField block i 2 = 256 * (block.getD i 0).toNat + (block.getD (i + 1) 0).toNat := rfl

/-- The first field out of range, field by field. -/
theorem siteFlaw_chain (block : List Byte) :
    let b (i : Nat) : Nat := (block.getD i 0).toNat
    let w (i : Nat) : Nat := 256 * b i + b (i + 1)
    siteFlaw block =
      if ¬ (5 ≤ b 0 ∧ b 0 ≤ 200) then some 0
      else if ¬ (200 ≤ w 1 ∧ w 1 ≤ 5000) then some 1
      else if ¬ (2 ≤ b 3 ∧ b 3 ≤ 32) then some 3
      else if ¬ (b 4 ≤ 15) then some 4
      else if ¬ (20 ≤ w 5 ∧ w 5 ≤ 500) then some 5
      else if ¬ (2 ≤ b 7 ∧ b 7 ≤ 50) then some 7
      else if ¬ (200 ≤ w 8 ∧ w 8 ≤ 2000) then some 8
      else if ¬ (200 ≤ w 10 ∧ w 10 ≤ 5000) then some 10
      else if ¬ (500 ≤ w 12 ∧ w 12 ≤ 4000) then some 12
      else if ¬ (50 ≤ w 14 ∧ w 14 ≤ 2000) then some 14
      else if ¬ (20 ≤ w 16 ∧ w 16 ≤ 1990 ∧ w 16 < w 14) then some 16
      else if ¬ (b 18 ≤ 8) then some 18
      else if ¬ (3 ≤ b 19 ∧ b 19 ≤ 64) then some 19
      else if ¬ (1000 ≤ w 20 ∧ w 20 ≤ 4000) then some 20
      else if ¬ (10 ≤ b 22 ∧ b 22 ≤ 250) then some 22
      else if ¬ (b 23 = 1 ∨ b 23 = 2) then some 23
      else if ¬ (b 24 = 1 ∨ b 24 = 2) then some 24
      else none := by
  intro b w
  simp only [siteFlaw, siteFields, find_map_cons, List.find?_nil, Option.map_none, Bool.or_eq_true, Bool.and_eq_true,
    decide_eq_true_eq, beq_iff_eq]
  iterate 17 refine if_congr (by simp only [siteField_one, siteField_two, true_and, b, w]; omega) rfl ?_
  rfl

/-- PUT_SITE outside HALTED. -/
theorem putSite_running {block : List Byte} {s : State} (h : s.rnc.runState ≠ .halted) :
    putSite block s = answer .wrongState .nothing s := by
  rw [putSite, if_pos (by simpa using h)]

/-- PUT_SITE with a field out of range. -/
theorem putSite_flawed {block : List Byte} {s : State} {offset : Nat} (h : s.rnc.runState = .halted)
    (hf : siteFlaw block = some offset) : putSite block s = answer .badValue (.siteOffset offset) s := by
  rw [putSite, if_neg (by simp [h])]
  simp only [hf]

/-- PUT_SITE that is carried out. -/
theorem putSite_done {block : List Byte} {s : State} (h : s.rnc.runState = .halted) (hf : siteFlaw block = none) :
    putSite block s = answer .done .nothing (acceptAllRipe { s with rnc := { s.rnc with site := siteOf block } }) := by
  rw [putSite, if_neg (by simp [h])]
  simp only [hf]

/-- No input whose filter time is a site setting has a candidate: none is accepted. -/
theorem acceptAllRipe_none {s : State} (h : ∀ i, i ≠ .calSwitch → (s.ylu.filter i).candidate = none) : acceptAllRipe s = s := by
  have hone : ∀ i, i ≠ .calSwitch → acceptRipe i s = s := fun i hi => by simp only [acceptRipe, State.ripe, h i hi]
  simp only [acceptAllRipe, siteInputs, List.foldl, hone .entryLoop nofun, hone .exitLoop nofun, hone .stripA nofun,
    hone .stripB nofun]

/-- What Run Control holds is a silent matter. -/
theorem silent_rnc (x : Rnc) : Silent fun s => s.rnc = x where
  frame := fun _ _ h => h
  psu := fun _ _ h => h
  axm := fun _ _ h => h
  vfu := fun _ _ h => h
  hand := fun _ _ h => handUpdate_survives (P := fun s => s.rnc = x) (fun _ _ h => h) h
  mark := fun _ _ h => h
  free := fun _ _ h => h

/-- Accepted changes do not touch Run Control. -/
theorem acceptRipe_rnc (i : YardInput) (s : State) : (acceptRipe i s).rnc = s.rnc := by
  rw [acceptRipe]
  split
  · next c _ =>
    have hhand : ∀ t : State, t.rnc = s.rnc → (handOn i s.ylu.entryGreen c t).rnc = s.rnc := by
      intro t ht
      cases i with
      | entryLoop => exact silent_entryChange (silent_rnc s.rnc) ht
      | exitLoop => exact silent_exitChange (silent_rnc s.rnc) ht
      | stripA =>
        simp only [handOn]
        split
        · exact silent_stripAPress (silent_rnc s.rnc) ht
        · exact ht
      | stripB =>
        simp only [handOn]
        split
        · exact silent_stripBPress (silent_rnc s.rnc) ht
        · exact ht
      | calSwitch =>
        simp only [handOn, switchOpened, calSwitchOpened]
        rw [endCalibration_eq]
        split_ifs <;> exact ht
    rw [acceptChange, reportChange]
    split
    · exact hhand _ rfl
    · exact hhand _ rfl
  · rfl

theorem acceptAllRipe_rnc (s : State) : (acceptAllRipe s).rnc = s.rnc := by
  simp only [acceptAllRipe, siteInputs, List.foldl, acceptRipe_rnc]

/-- Settles O21: PUT_SITE row by row, the block's fields, and the first of them out of range. -/
theorem putSiteReplacesTheBlock : Obligations.PutSiteReplacesTheBlock := by
  refine ⟨fun s now ref block h => ⟨fun hl => ?_, fun hl hr => ?_, fun offset hl hr hf => ?_, fun hl hr hf hc => ?_,
    fun hl hr hf => ?_⟩, fun block hl => ⟨rfl, siteFlaw_chain block⟩⟩
  · exact handle_replyTo (ready_calm h) (if_neg (by simpa [Directive.wellFormed] using hl))
  · exact arrive_replied h h (d := .putSite block) (by simp [Directive.wellFormed, hl]) (putSite_running (s := queued now ref _ s) hr)
  · exact arrive_replied h h (d := .putSite block) (by simp [Directive.wellFormed, hl]) (putSite_flawed (s := queued now ref _ s) hr hf)
  · refine arrive_replied h (t := { s with rnc := { s.rnc with site := siteOf block } }) h (d := .putSite block)
      (by simp [Directive.wellFormed, hl]) ?_
    refine (putSite_done (s := queued now ref _ s) hr hf).trans ?_
    rw [acceptAllRipe_none]
    · rfl
    · intro i hi
      exact (congrArg InputFilter.candidate (by cases i <;> rfl)).trans (hc i hi)
  · refine ⟨_, arrive_ready h now ref (d := .putSite block) (by simp [Directive.wellFormed, hl]), ?_⟩
    rw [runDirective, putSite_done (s := queued now ref _ s) hr hf, answer_eq]
    exact acceptAllRipe_rnc _

/-! ## The clock -/

/-- The days of a month, as R211 counts them. -/
theorem daysIn_eq (year month : Nat) :
    daysIn year month =
      if month = 2 then (if year % 4 = 0 then 29 else 28) else if month ∈ [4, 6, 9, 11] then 30 else 31 := by
  simp [daysIn, leapYear, or_assoc]

/-- SET_CLOCK's fields form a time of 2000 to 2099. -/
theorem clockValid_iff (c : ClockFields) :
    ClockFields.valid c = true ↔
      c.year.toNat ≤ 99 ∧ 1 ≤ c.month.toNat ∧ c.month.toNat ≤ 12 ∧ 1 ≤ c.day.toNat ∧
        c.day.toNat ≤ (if c.month.toNat = 2 then (if c.year.toNat % 4 = 0 then 29 else 28)
          else if c.month.toNat ∈ [4, 6, 9, 11] then 30 else 31) ∧
        c.hour.toNat ≤ 23 ∧ c.minute.toNat ≤ 59 ∧ c.second.toNat ≤ 59 := by
  have hleap : (2000 + c.year.toNat) % 4 = c.year.toNat % 4 := by omega
  simp only [ClockFields.valid, daysIn_eq, hleap, Bool.and_eq_true, decide_eq_true_eq, and_assoc]

/-- SET_CLOCK with a valid time. -/
theorem setClock_done {s : State} {c : ClockFields} (h : ClockFields.valid c = true) :
    setClock c s =
      answer .done (.clockWas (if s.cck.isSet = true then some s.cck.time else none))
        { s with cck := { time := ClockFields.time c, isSet := true } } :=
  if_pos h

/-- The time one second later, by the field that takes the carry. -/
theorem tick_eq (t : CalTime) :
    t.tick =
      if t.second < 59 then some { t with second := t.second + 1 }
      else if t.minute < 59 then some { t with second := 0, minute := t.minute + 1 }
      else if t.hour < 23 then some { t with second := 0, minute := 0, hour := t.hour + 1 }
      else if t.day < (if t.month = 2 then (if t.year % 4 = 0 then 29 else 28) else if t.month ∈ [4, 6, 9, 11] then 30 else 31) then
        some { t with second := 0, minute := 0, hour := 0, day := t.day + 1 }
      else if t.month < 12 then some { t with second := 0, minute := 0, hour := 0, day := 1, month := t.month + 1 }
      else if t.year < 2099 then
        some { t with second := 0, minute := 0, hour := 0, day := 1, month := 1, year := t.year + 1 }
      else none := by
  rw [CalTime.tick, daysIn_eq]
  iterate 6 refine if_congr (by omega) rfl ?_
  rfl

/-- A clock that takes its next time, or stops where there is none. -/
def Cck.advanced (c : Cck) : Option CalTime → Cck
  | some t => { c with time := t }
  | none => { c with isSet := false }

/-- A second passes while the clock is set. -/
theorem secondPassed_set {s : State} (h : s.cck.isSet = true) :
    secondPassed s = { s with cck := s.cck.advanced s.cck.time.tick } := by
  rw [secondPassed, if_pos h]
  cases s.cck.time.tick <;> rfl

/-- Settles O23: SET_CLOCK by the validity of its fields, and the second by the field that carries. -/
theorem clockIsSetAndCounts : Obligations.ClockIsSetAndCounts := by
  refine ⟨fun s now ref c h => ?_, fun s now h hc => ?_, fun s now h hc => ?_⟩
  · by_cases hv : ClockFields.valid c = true
    · refine Eq.trans ?_ (congrArg _ (if_pos ((clockValid_iff c).1 hv)).symm)
      refine arrive_replied_refreshed h (t := { s with cck := { time := ClockFields.time c, isSet := true } }) h
        (d := .setClock c) rfl ?_ (setClock_done (s := queued now ref _ s) hv)
      rfl
    · refine Eq.trans ?_ (congrArg _ (if_neg (mt (clockValid_iff c).2 hv)).symm)
      exact arrive_replied h h (d := .setClock c) rfl (if_neg hv)
  · exact handle_nothing h (if_neg (by simp [hc]))
  · have hpassed := secondPassed_set (s := atTime now s) hc
    rw [tick_eq] at hpassed
    simp only [apply_ite (Cck.advanced _)] at hpassed
    exact handle_calm h hpassed h.1.2 rfl rfl

/-! ## Power and the store check -/

/-- The fault flag stands among the reasons. -/
theorem verified_of_fault {s : State} (h : s.stc.fault = true) : s.verified = false := by
  have hmem : TradeReason.storeFault ∈ s.reasonSet := List.mem_filter.2 ⟨by simp [allReasons], h⟩
  simp [State.verified, List.ne_nil_of_mem hmem]

/-- The part after the store check, before what is reported of it (R214, R215). -/
def checked (found : Areas) (s : State) : State :=
  let damaged := { found with ticket := found.ticket || s.stc.store.ticket.next == 0 }
  { s with
    clc :=
      { Clc.powerOn with
        nodes := (List.range 16).map fun i => .fresh (!found.calibration && decide ((i + 1) ∈ s.committed.pollList)) }
    wge :=
      { decks := (List.range 4).map fun i =>
          if found.calibration = true ∨ (s.committed.deck i).mask = 0 then none else some (.fresh (s.committed.deck i).zeroCal)
        latest := none
        streamCount := 0 }
    stc := { s.stc with
      damaged := damaged
      fault := damaged.calibration || damaged.status || damaged.ticket || damaged.transaction
      queue := []
      checking := false } }

/-- The part after the store check, with the frame that reports it. -/
def checkReported (found : Areas) (s : State) : State :=
  if (checked found s).stc.fault = true then offer (.event s.ylu.timebase (.storeFault (.damaged (checked found s).stc.damaged))) (checked found s)
  else if (checked found s).reasonSet ≠ [] then checked found s
  else offer (.event s.ylu.timebase (.tradeStatusChanged true [] s.vfu.zeroLimitPending .powerOn)) (checked found s)

/-- The nodes and decks that either reset gives, each node as a fresh record. -/
theorem resetNodes_fresh (s : State) :
    resetNodes s = { s with
      clc :=
        { Clc.powerOn with
          nodes := (List.range 16).map fun i =>
            .fresh (!s.stc.damaged.calibration && decide ((i + 1) ∈ s.committed.pollList)) }
      wge :=
        { decks := (List.range 4).map fun i =>
            if s.stc.damaged.calibration = true ∨ (s.committed.deck i).mask = 0 then none
            else some (.fresh (s.committed.deck i).zeroCal)
          latest := none
          streamCount := 0 } } := by
  simp only [resetNodes, resetDeck_eq, List.contains_eq_mem, Wge.powerOn]
  rfl

/-- A VERIFIED trade status is reported at the end of the store check (R176). -/
def statusShown (s : State) : State :=
  if s.verified then raise (.tradeStatusChanged true s.reasonSet s.vfu.zeroLimitPending .powerOn) s else s

/-- The end of the store check. -/
theorem checkComplete_checking {found : Areas} {s : State} (h : s.stc.checking = true) :
    checkComplete found s = checkReported found s := by
  have hcheck : resetNodes { s with stc := (checked found s).stc } = checked found s := resetNodes_fresh _
  have hdone : checkComplete found s =
      statusShown (if (checked found s).stc.fault = true then
        raise (.storeFault (.damaged (checked found s).stc.damaged)) (checked found s) else checked found s) := by
    rw [← hcheck, checkComplete, if_pos h]
    rfl
  rw [hdone, checkReported]
  by_cases hf : (checked found s).stc.fault = true
  · rw [if_pos hf, if_pos hf]
    exact if_neg (Bool.eq_false_iff.1 (verified_of_fault (s := checked found s) hf))
  · rw [if_neg hf, if_neg hf, statusShown]
    by_cases hr : (checked found s).reasonSet = []
    · have hv : (checked found s).verified = true := by simp [State.verified, hr]
      rw [if_pos hv, if_neg (not_not.2 hr), hr]
      rfl
    · rw [if_pos hr]
      exact if_neg (by simpa [State.verified] using hr)

/-- A directive that arrives with room in the directive queue joins it. -/
theorem submit_joins {s : State} {ref : Byte} {d : Directive} (hw : d.wellFormed = true) (hroom : s.tli.directives.length < 4) :
    submit ref d s = { s with tli := { s.tli with directives := s.tli.directives ++ [⟨ref, d⟩] } } := by
  rw [submit, if_pos hw]
  exact if_neg (Nat.not_le.2 hroom)

/-- Settles O24: power, its loss, and the store check with what waits behind it. -/
theorem powerAndStoreCheck : Obligations.PowerAndStoreCheck := by
  refine ⟨fun s rate1 rate0 levels => ⟨_, rfl, ?_⟩, fun s => ⟨_, rfl, rfl, rfl, rfl, rfl⟩, fun s now ref d hp hc hw hroom => ?_,
    fun s now found hp hc => ?_⟩
  · exact ⟨rfl, rfl, rfl, rfl, rfl, rfl, rfl, rfl, rfl, rfl, rfl, rfl, rfl, rfl, rfl, rfl, rfl⟩
  · rw [exec_directiveRow, arrive, handle_next, if_pos hp, submit_joins (s := atTime now s) hw hroom]
    exact congrArg _ (if_pos hc)
  · intro damaged checked done
    have hreported : checkReported found (atTime now s) = atTime now done := by
      simp only [checkReported, done, apply_ite (atTime now)]
      rfl
    have hdone : exec (.storeCheckComplete now found) s = .next (finish (atTime now done)) := by
      rw [← hreported, ← checkComplete_checking (s := atTime now s) hc]
      exact congrArg _ (if_pos hp)
    refine ⟨hdone, fun hd => hdone.trans (congrArg _ ?_)⟩
    have hchecked : done.stc.checking = false ∧ done.tli.directives = [] := by
      simp only [done]
      split_ifs
      · exact ⟨rfl, (offer_keeps ..).1.trans hd⟩
      · exact ⟨rfl, hd⟩
      · exact ⟨rfl, (offer_keeps ..).1.trans hd⟩
    exact finish_idle (s := atTime now done) hchecked.1 hchecked.2

/-! ## READ_STATUS -/

/-- A deck that is configured and at fault. -/
theorem anyDeckFault_iff {s : State} :
    s.anyDeckFault = true ↔ ∃ d ∈ s.wge.decks, (d.map fun d => d.state) = some .fault := by
  rw [State.anyDeckFault, List.any_eq_true]
  refine exists_congr fun d => and_congr_right fun _ => ?_
  cases d <;> simp

/-- A polled node that is lost. -/
theorem anyNodeLost_iff {s : State} : s.anyNodeLost = true ↔ ∃ r ∈ s.clc.nodes, r.state = .lost := by
  simp [State.anyNodeLost]

/-- The foremost condition, in the order of R201. -/
theorem foremost_eq (s : State) :
    s.foremost =
      if s.stc.fault = true then .storeFault
      else if s.clc.line = .broken then .lineBreak
      else if (∃ d ∈ s.wge.decks, (d.map fun d => d.state) = some .fault) then .deckFault
      else if (∃ r ∈ s.clc.nodes, r.state = .lost) then .nodeLost
      else if s.reasonSet ≠ [] then .notVerified
      else if s.cck.isSet = false then .clockUnset
      else if (s.stc.damaged.ticket = false ∧ s.stc.damaged.transaction = false ∧ s.stc.store.ticket.next ≠ 0) ∧
          s.fillSlotPosted = true then .ringBlocked
      else if s.tli.scanOverrun = true then .scanOverrun
      else .none := by
  rw [State.foremost]
  refine if_congr Iff.rfl rfl <| if_congr beq_iff_eq rfl <| if_congr anyDeckFault_iff rfl <| if_congr anyNodeLost_iff rfl <|
    if_congr ?_ rfl <| if_congr (by simp) rfl <| if_congr ?_ rfl rfl
  · simp [State.verified]
  · rw [Bool.and_eq_true, ticketsUsable_iff]

/-- The store case of R152 that the reply shows. -/
theorem storeCase_eq (s : State) :
    s.storeCase =
      if ¬ (s.stc.damaged.ticket = false ∧ s.stc.damaged.transaction = false ∧ s.stc.store.ticket.next ≠ 0) then .unusable
      else if s.stc.fault = true then .writeFault
      else .clear :=
  if_congr (by rw [← ticketsUsable_iff, Bool.not_eq_true', Bool.not_eq_true]) rfl rfl

/-- Settles O25: the reply's fields as the blocks have them, and what the reply clears where it finds room. -/
theorem statusIsRead : Obligations.StatusIsRead := by
  intro s now ref h report answered usable
  have hanswer : answer .done (.status (statusReport (queued now ref .readStatus s))) (queued now ref .readStatus s) =
      taken now answered := by
    rw [answer_only .done _ (q := ⟨ref, .readStatus⟩) rfl, queued_unqueued h]
    rfl
  have hexec := arrive_ready h now ref (d := .readStatus) rfl
  refine ⟨fun hroom => hexec.trans (congrArg _ ?_), fun hfull => hexec.trans (congrArg _ ?_), ?_, rfl, ?_, ?_, rfl, ?_⟩
  · rw [runDirective, readStatus, if_pos (by exact hroom), hanswer]
    rfl
  · rw [runDirective, readStatus, if_neg (by exact Nat.not_lt.2 hfull), hanswer]
    rfl
  · exact ⟨rfl, rfl, rfl, rfl, rfl, rfl, rfl, rfl, rfl, rfl, rfl, rfl, rfl, rfl, rfl, rfl, rfl, rfl, rfl, rfl, rfl, rfl, rfl,
      storeCase_eq (taken now s)⟩
  · refine lightConditions_entryGreen_iff.trans ?_
    rw [ticketsUsable_iff, and_assoc]
    rfl
  · exact exitOpen_iff
  · exact foremost_eq (taken now s)

end Sys2Proof.Machine
end

section
/-! SUPPORT. The Cell Line Controller (R1 to R19): LINE_TEST and READ_NODE, scans and what their completion leaves of them, the checks
of a reply, reply windows, the moves of node records and decks, and line breaks. -/

namespace Sys2Proof.Machine

/-! ## LINE_TEST -/

/-- LINE_TEST outside HALTED. -/
theorem lineTest_running {s : State} (h : s.rnc.runState ≠ .halted) : lineTest s = answer .wrongState .nothing s := by
  rw [lineTest, if_pos (by simpa using h)]

/-- LINE_TEST in HALTED. -/
theorem lineTest_held {s : State} (h : s.rnc.runState = .halted) :
    lineTest s = holdQueue { s with clc := { s.clc with lineTest := true } } := by
  rw [lineTest, if_neg (by simp [h])]
  rfl

/-- A test character that did not come back as it was sent. -/
theorem testMatches_eq (i : Nat) (back : Option CellChar) :
    (!testMatches i back) =
      decide (back ≠ some ⟨if i < 24 then 1#8 <<< (i % 8) else ~~~(1#8 <<< (i % 8)), true, true⟩) := by
  cases back with
  | none => rfl
  | some c =>
    obtain ⟨data, parity, stop⟩ := c
    simp [testMatches, testChar, Bool.beq_eq_decide_eq, imp_iff_not_or, Bool.or_assoc]

/-- The mismatches are counted over the 48 characters. -/
theorem testMismatches_eq (back : List (Option CellChar)) :
    testMismatches back =
      (List.range 48).countP fun i =>
        decide (back.getD i none ≠ some ⟨if i < 24 then 1#8 <<< (i % 8) else ~~~(1#8 <<< (i % 8)), true, true⟩) := by
  simp only [testMismatches, testMatches_eq, ← List.countP_eq_length_filter]

/-- Settles O26: LINE_TEST by run state, its end with the count, and the end of no test. -/
theorem lineTestCountsMismatches : Obligations.LineTestCountsMismatches := by
  refine ⟨fun s now ref h => ⟨fun hr => ?_, fun hr => ?_⟩, fun s now ref back h ht => ?_, fun s now back h ht => ?_⟩
  · exact arrive_replied h h (d := .lineTest) rfl (lineTest_running (s := queued now ref _ s) hr)
  · refine arrive_holding h (d := .lineTest) rfl ?_ (lineTest_held (s := queued now ref .lineTest s) hr)
    rfl
  · rw [← testMismatches_eq]
    exact handle_answered (effect := lineTested back) (d := .lineTest) (t := { s with clc := { s.clc with lineTest := false } }) h h
      (if_pos ht)
  · exact handle_nothing h (if_neg (by simp [ht]))

/-! ## READ_NODE -/

/-- A byte names a node exactly when it lies in 1 to 16. -/
theorem nodeOf_some {b : Byte} (h1 : 1 ≤ b.toNat) (h16 : b.toNat ≤ 16) : nodeOf b = some b.toNat := by
  simp [nodeOf, h1, h16]

theorem nodeOf_none {b : Byte} (h : b.toNat = 0 ∨ 16 < b.toNat) : nodeOf b = none :=
  if_neg (by simp; omega)

/-- READ_NODE with a field out of range. -/
theorem readNode_bad {node clear : Byte} {s : State} (h : node.toNat = 0 ∨ 16 < node.toNat ∨ firstOrSecond clear = none) :
    readNode node clear s = answer .badValue .nothing s := by
  rcases or_assoc.2 h with h | h
  · simp only [readNode, nodeOf_none h]
  · simp only [readNode, h]
    cases nodeOf node <;> rfl

/-- READ_NODE of a node. -/
theorem readNode_done {node clear : Byte} {s : State} {c : Bool} (h1 : 1 ≤ node.toNat) (h16 : node.toNat ≤ 16)
    (hc : firstOrSecond clear = some c) :
    readNode node clear s =
      answer .done (.node (s.clc.node node.toNat))
        (if c then { s with clc := s.clc.setNode node.toNat (s.clc.node node.toNat).cleared } else s) := by
  simp only [readNode, nodeOf_some h1 h16, hc]
  rfl

/-- Settles O27: READ_NODE by its two bytes. -/
theorem nodeIsRead : Obligations.NodeIsRead := by
  refine fun s now ref node clear h => ⟨fun hbad => ?_, fun h1 h16 hc => ?_, fun h1 h16 hc => ?_⟩
  · exact arrive_replied h h (d := .readNode node clear) rfl (readNode_bad hbad)
  · exact arrive_replied h h (d := .readNode node clear) rfl (readNode_done (s := queued now ref _ s) h1 h16 hc)
  · exact arrive_replied h (t := { s with clc := s.clc.setNode node.toNat (s.clc.node node.toNat).cleared }) h
      (d := .readNode node clear) rfl (readNode_done (s := queued now ref _ s) h1 h16 hc)

/-! ## What a completed scan leaves -/

/-- The CLC is as `c` but for node records whose errors stand, and no second directive waits behind one that holds the queue. -/
structure ScanOver (c : Clc) (s : State) : Prop where
  clc : s.clc = { c with nodes := s.clc.nodes }
  errors : errorFields s.clc.nodes = errorFields c.nodes
  awake : s.stc.checking = false
  queue : s.tli.directives = [] ∨ s.tli.executing = true ∧ s.tli.directives.length ≤ 1

/-- A change of the link that leaves the directive queue alone. -/
theorem scanOver_link {c : Clc} {s : State} {x : Tli} (h : ScanOver c s) (hd : x.directives = s.tli.directives)
    (he : x.executing = s.tli.executing) : ScanOver c { s with tli := x } :=
  ⟨h.clc, h.errors, h.awake, by simpa only [hd, he] using h.queue⟩

/-- The arbiter leaves the directive queue alone. -/
theorem choose_queue (t : Tli) : t.choose.directives = t.directives ∧ t.choose.executing = t.executing := by
  rcases t with ⟨_, _, _, _, _, _, classA, weight, sample, sending, _, _, _, _⟩
  cases sending with
  | some f => exact ⟨rfl, rfl⟩
  | none =>
    cases classA with
    | cons f rest => exact ⟨rfl, rfl⟩
    | nil =>
      cases weight with
      | some w => exact ⟨rfl, rfl⟩
      | none => cases sample <;> exact ⟨rfl, rfl⟩

theorem scanOver_answerHeld {c : Clc} {s : State} (st : Status) (r : Result) (h : ScanOver c s) : ScanOver c (answerHeld st r s) := by
  rw [answerHeld]
  split
  · cases hd : s.tli.directives with
    | nil => simpa only [answer, hd] using h
    | cons q rest =>
      have hrest : rest = [] := by
        rcases h.queue with hq | ⟨-, hq⟩
        · rw [hd] at hq
          cases hq
        · exact List.length_eq_zero_iff.1 (by rw [hd, List.length_cons] at hq; omega)
      rw [answer_only st r (hrest ▸ hd)]
      exact ⟨h.clc, h.errors, h.awake, .inl (offer_keeps _ _).1⟩
  · exact h

/-- A completed scan's deliveries leave the rest of the CLC, and the directive queue, as said. -/
theorem scanOver_scanned (c : Clc) : Scanned (ScanOver c) where
  frame f _ h := scanOver_link h (offer_keeps _ f).1 (offer_keeps _ f).2.1
  psu _ _ h := ⟨h.clc, h.errors, h.awake, h.queue⟩
  axm _ _ h := ⟨h.clc, h.errors, h.awake, h.queue⟩
  vfu _ _ h := ⟨h.clc, h.errors, h.awake, h.queue⟩
  hand _ _ h := handUpdate_survives (fun _ _ h => ⟨h.clc, h.errors, h.awake, h.queue⟩) h
  mark _ _ h := ⟨h.clc, h.errors, h.awake, h.queue⟩
  free _ _ h := ⟨h.clc, h.errors, h.awake, h.queue⟩
  nodes x s hx h := by
    refine ⟨?_, hx.trans h.errors, h.awake, h.queue⟩
    rw [h.clc]
  wge _ _ _ h := ⟨h.clc, h.errors, h.awake, h.queue⟩
  rnc _ _ h := ⟨h.clc, h.errors, h.awake, h.queue⟩
  weight f s h := scanOver_link h (choose_queue _).1 (choose_queue _).2
  sample f s h := scanOver_link h (choose_queue _).1 (choose_queue _).2
  reply st r _ h := scanOver_answerHeld st r h

/-- The end of a scan. -/
theorem finishScan_over {s : State} (sc : Scan) (hc : s.stc.checking = false)
    (hq : s.tli.directives = [] ∨ s.tli.executing = true ∧ s.tli.directives.length ≤ 1) :
    ScanOver { s.clc with scan := none, attempt := none } (finishScan sc s) :=
  scanned_scanDeliveries (s := setClc { s.clc with scan := none, attempt := none } s) (scanOver_scanned _) ⟨rfl, rfl, hc, hq⟩

/-- A command whose effect ends a scan. -/
theorem handle_scanOver {s u : State} {c : Clc} {now : Stamp} {effect : State → State} (hp : s.powered = true)
    (he : effect (atTime now s) = u) (hu : ScanOver c u) :
    ∃ t, handle now effect s = .next t ∧ ScanOver c t := by
  refine ⟨refreshLights u, ?_, hu.clc, hu.errors, hu.awake, hu.queue⟩
  rw [handle_next, if_pos hp, he]
  rcases hu.queue with hq | ⟨hx, -⟩
  · rw [finish_idle hu.awake hq]
  · rw [finish_held hu.awake hx]

/-! ## The scan timer -/

/-- The poll list is the nodes of the four masks, ascending. -/
theorem mem_pollList {c : CalSet} {n : Nat} :
    n ∈ c.pollList ↔ 1 ≤ n ∧ n ≤ 16 ∧ ∃ i, i < 4 ∧ (c.deck i).mask.getLsbD (n - 1) = true := by
  simp only [CalSet.pollList, List.mem_filter, List.mem_map, List.mem_range, List.any_eq_true]
  constructor
  · rintro ⟨⟨m, hm, rfl⟩, hany⟩
    exact ⟨by omega, by omega, hany⟩
  · rintro ⟨h1, h16, hany⟩
    exact ⟨⟨n - 1, by omega, by omega⟩, hany⟩

theorem pollList_ascending (c : CalSet) : c.pollList.Pairwise (fun m n => m < n) :=
  ((List.pairwise_map.2 (List.pairwise_lt_range.imp fun h => Nat.succ_lt_succ h))).filter _

/-- How a node record follows the poll list (R3). -/
theorem follow_eq (list : List Nat) (n : Nat) (r : NodeRecord) :
    r.follow (list.contains n) =
      if n ∈ list then
        if r.state = .unassigned then { r with state := .searching, missed := 0, lastSequence := none } else r
      else if r.state = .unassigned then r
      else { r with state := .unassigned, missed := 0, lastSequence := none } := by
  simp only [NodeRecord.follow, List.contains_iff_mem, beq_iff_eq]

/-- The command of a poll, by the node's record. -/
def commandOf (r : NodeRecord) : PollCommand :=
  if r.delivered then .sample else if r.mode = .reference then .reference else .normal

theorem pollNode_eq (n number : Nat) (s : State) :
    pollNode n number s =
      { s with clc := { s.clc with attempt := some { node := n, number := number, command := commandOf (s.clc.node n) } } } := by
  have hmode : (s.clc.node n).mode.command = if (s.clc.node n).mode = .reference then .reference else .normal := by
    cases (s.clc.node n).mode <;> rfl
  rw [pollNode, setClc, commandOf, hmode]

/-- A node's delivery and mode are the same after it has followed a poll list. -/
theorem commandOf_follow {c : Clc} {listed : Nat → Bool} (n : Nat) :
    commandOf (Clc.node { c with nodes := c.nodes.mapIdx fun i r => r.follow (listed (i + 1)) } n) = commandOf (c.node n) := by
  have hfollow : ∀ (b : Bool) (r : NodeRecord), commandOf (r.follow b) = commandOf r := by
    intro b r
    simp only [NodeRecord.follow]
    split_ifs <;> rfl
  simp only [Clc.node, List.getD_eq_getElem?_getD, List.getElem?_mapIdx]
  cases c.nodes[n - 1]? with
  | none => rfl
  | some r => exact hfollow _ r

/-- The CLC as a scan begins (R3, R5). -/
def Clc.begun (list : List Nat) (c : Clc) : Clc :=
  { c with
    scanNumber := c.scanNumber + 1
    scanPending := false
    nodes := c.nodes.mapIdx fun i r => r.follow (list.contains (i + 1)) }

/-- A scan begins with its first poll. -/
theorem beginScan_polls {s : State} {n : Nat} {rest : List Nat} (hl : s.clc.line = .normal) (hn : s.setInUse.pollList = n :: rest) :
    beginScan s =
      { s with clc := { s.clc.begun s.setInUse.pollList with
        scan := some
          { number := s.clc.scanNumber + 1, todo := n :: rest, slots := (n :: rest).map fun n => (n, .awaiting), entries := []
            references := [] }
        attempt := some { node := n, number := 1, command := commandOf (s.clc.node n) } } } := by
  have hnormal : ¬ (s.clc.line == .broken) = true := by simp [hl]
  rw [beginScan]
  dsimp only
  rw [if_neg (by exact hnormal), hn]
  dsimp only
  rw [pollNode_eq]
  exact congrArg
    (fun command => { s with clc := { s.clc.begun (n :: rest) with
      scan := some
        { number := s.clc.scanNumber + 1, todo := n :: rest, slots := (n :: rest).map fun n => (n, .awaiting), entries := []
          references := [] }
      attempt := some { node := n, number := 1, command := command } } })
    (commandOf_follow n)

/-- In BREAK, or with an empty poll list, the scan ends as it begins. -/
theorem beginScan_ends {s : State} (h : s.clc.line = .broken ∨ s.setInUse.pollList = []) :
    ∃ sc, beginScan s = finishScan sc { s with clc := s.clc.begun s.setInUse.pollList } := by
  by_cases hl : s.clc.line = .broken
  · exact ⟨_, if_pos (by exact beq_iff_eq.2 hl)⟩
  · refine ⟨{ number := s.clc.scanNumber + 1, todo := [], slots := [], entries := [], references := [] }, ?_⟩
    rw [beginScan]
    dsimp only
    rw [if_neg (by exact fun hb => hl (beq_iff_eq.1 hb)), h.resolve_left hl]
    rfl

theorem scanning_iff {s : State} : s.scanning = true ↔ s.rnc.runState = .warmup ∨ s.rnc.runState = .run := by
  simp [State.scanning]

/-- An expiry of the scan timer that has run its period. -/
theorem scanTimerRuns_due {s : State} {since : Stamp} (hr : s.rnc.runState = .warmup ∨ s.rnc.runState = .run)
    (ht : s.clc.scanTimer = some since) (hd : s.rnc.site.scanPeriod * 1000 ≤ (s.ylu.timebase - since).toNat) :
    scanTimerRuns s =
      timerExpired { s with clc := { s.clc with scanTimer := some (since + BitVec.ofNat 32 (s.rnc.site.scanPeriod * 1000)) } } := by
  rw [scanTimerRuns, ht]
  exact if_pos (Bool.and_eq_true_iff.2 ⟨scanning_iff.2 hr, decide_eq_true hd⟩)

/-- An expiry before the period has run. -/
theorem scanTimerRuns_early {s : State} {since : Stamp} (ht : s.clc.scanTimer = some since)
    (hd : (s.ylu.timebase - since).toNat < s.rnc.site.scanPeriod * 1000) : scanTimerRuns s = s := by
  rw [scanTimerRuns, ht]
  exact if_neg fun hdue => Nat.not_le.2 hd (of_decide_eq_true (Bool.and_eq_true_iff.1 hdue).2)

/-- An expiry without a scan in progress. -/
theorem timerExpired_begins {s : State} (h : s.clc.scan = none) : timerExpired s = beginScan s := by
  rw [timerExpired, h]

/-- An expiry during a scan marks the next one pending. -/
theorem timerExpired_overrun {s : State} {sc : Scan} (h : s.clc.scan = some sc) (hp : s.clc.scanPending = false) :
    timerExpired s =
      offer (.event s.ylu.timebase (.scanOverrun sc.number))
        { s with clc := { s.clc with scanPending := true }, tli := { s.tli with scanOverrun := true } } := by
  rw [timerExpired, h]
  exact if_neg (by simp [hp])

/-- A further expiry during the same scan changes nothing. -/
theorem timerExpired_pending {s : State} {sc : Scan} (h : s.clc.scan = some sc) (hp : s.clc.scanPending = true) :
    timerExpired s = s := by
  rw [timerExpired, h]
  exact if_pos hp

/-- Settles O28: the expiry by the period, the scan in progress, the line and the poll list. -/
theorem scanTimerBeginsScan : Obligations.ScanTimerBeginsScan := by
  refine ⟨fun s now since h hr ht => ?_, fun c => ⟨pollList_ascending c, fun n => mem_pollList⟩⟩
  intro period timed list begun
  refine ⟨fun hd => ?_, fun n rest hd hs hl hn => ?_, fun hd hs hn hq => ?_, fun sc hd hs hp => ?_, fun sc hd hs hp => ?_⟩
  · exact handle_nothing h (scanTimerRuns_early (s := atTime now s) ht hd)
  all_goals
    let timedState : State := { atTime now s with clc := timed }
    have hdue : scanTimerRuns (atTime now s) = timerExpired timedState := scanTimerRuns_due (s := atTime now s) hr ht hd
    have hbegun : timedState.clc.begun timedState.setInUse.pollList = begun := by
      simp only [Clc.begun, follow_eq]
      rfl
  · have hbegins := beginScan_polls (s := timedState) hl hn
    rw [hbegun] at hbegins
    exact handle_calm h ((hdue.trans (timerExpired_begins (s := timedState) hs)).trans hbegins) h.1.2 rfl rfl
  · obtain ⟨sc, hsc⟩ := beginScan_ends (s := timedState) hn
    rw [hbegun] at hsc
    have hover := finishScan_over sc (s := { timedState with clc := begun }) h.1.2 (h.2.imp_right fun hx => ⟨hx, hq⟩)
    obtain ⟨t, ht, hscan⟩ :=
      handle_scanOver (now := now) h.1.1 ((hdue.trans (timerExpired_begins (s := timedState) hs)).trans hsc) hover
    exact ⟨t, ht, by rw [hscan.clc], by rw [hscan.clc], by rw [hscan.clc]⟩
  · exact handle_calm h (hdue.trans (timerExpired_overrun (s := timedState) hs hp)) h.1.2 (offer_keeps ..).1 (offer_keeps ..).2.1
  · exact handle_calm h (hdue.trans (timerExpired_pending (s := timedState) hs hp)) h.1.2 rfl rfl

/-! ## The checks of a reply -/

section
variable {node : Nat} {last : Option Nat} {received : List CellChar}

/-- A received character fails a check of its own. -/
theorem all_eq_false_iff {f : CellChar → Bool} : received.all f = false ↔ ∃ c ∈ received, f c = false := by
  simp [List.all_eq_false]

/-- A reply with a parity error. -/
theorem judgeReply_parity (h : ∃ c ∈ received, c.parityOk = false) : judgeReply node last received = .error .parity := by
  have hne : received ≠ [] := List.ne_nil_of_mem h.choose_spec.1
  rw [judgeReply, if_neg (by simpa using hne), if_pos (by simpa using h)]

/-- A reply with a framing error behind good parity. -/
theorem judgeReply_framing (hp : ¬ ∃ c ∈ received, c.parityOk = false) (h : ∃ c ∈ received, c.stopOk = false) :
    judgeReply node last received = .error .framing := by
  have hne : received ≠ [] := List.ne_nil_of_mem h.choose_spec.1
  rw [judgeReply, if_neg (by simpa using hne), if_neg (by simpa using hp), if_pos (by simpa using h)]

/-- Characters that came whole are judged by their bytes. -/
theorem judgeReply_whole (hp : ¬ ∃ c ∈ received, c.parityOk = false) (hf : ¬ ∃ c ∈ received, c.stopOk = false)
    (hne : received ≠ []) :
    judgeReply node last received =
      match received.map (·.data) with
      | [address, status, c2, c1, c0, check] =>
        if check != checkByte [address, status, c2, c1, c0] then .error .check
        else if address != addressByte node then .error .address
        else if last == some (sampleReply status c2 c1 c0).sequence then .error .stale
        else if (sampleReply status c2 c1 c0).excitationLow then .error .excitation
        else .valid (sampleReply status c2 c1 c0)
      | _ => .error .length :=
  (if_neg (by simpa using hne)).trans ((if_neg (by simpa using hp)).trans (if_neg (by simpa using hf)))

/-- Six whole characters: the last five checks. -/
theorem judgeReply_six {a st c2 c1 c0 ck : Byte} (hp : ¬ ∃ c ∈ received, c.parityOk = false)
    (hf : ¬ ∃ c ∈ received, c.stopOk = false) (h : received.map (·.data) = [a, st, c2, c1, c0, ck]) :
    judgeReply node last received =
      if ck ≠ ~~~(a + st + c2 + c1 + c0) then .error .check
      else if a ≠ 0x80 + BitVec.ofNat 8 node then .error .address
      else if last = some (st >>> 4).toNat then .error .stale
      else if st.getLsbD 2 = true then .error .excitation
      else .valid
        { sequence := (st >>> 4).toNat, excitationLow := false, overRange := st.getLsbD 1, reference := st.getLsbD 0
          count := c2 ++ c1 ++ c0 } := by
  have hne : received ≠ [] := by rintro rfl; simp at h
  have hseq : (st.extractLsb' 4 4).toNat = (st >>> 4).toNat := by
    rw [BitVec.extractLsb'_toNat, BitVec.toNat_ushiftRight]
    omega
  have hcheck : checkByte [a, st, c2, c1, c0] = ~~~(a + st + c2 + c1 + c0) := by simp [checkByte]
  rw [judgeReply_whole hp hf hne, h]
  simp only [bne_iff_ne, beq_iff_eq, hcheck, addressByte, sampleReply, hseq]
  cases st.getLsbD 2 <;> rfl

end

/-- Settles O29: the eight checks in their order, and the short window. -/
theorem replyChecksInOrder : Obligations.ReplyChecksInOrder := by
  refine ⟨fun node last received => ⟨?_, fun _ hp => judgeReply_parity hp, judgeReply_framing, fun hp hf hne hl => ?_,
    fun a st c2 c1 c0 ck hp hf hm => judgeReply_six hp hf hm, fun kind => ?_, fun _ _ => rfl⟩,
    fun x node last received => ⟨fun hw => ?_, fun h => ?_, fun hw hne hp hf => ?_⟩⟩
  · rintro rfl
    rfl
  · rw [judgeReply_whole hp hf hne]
    split
    · next h => exact absurd (by simpa using congrArg List.length h) hl
    · rfl
  · cases kind <;> simp [CellError.retriable]
  · exact judgeReplyIn_long node last received (decide_eq_true hw)
  · rw [judgeReplyIn, if_pos]
    simpa [or_assoc] using .inr h
  · refine if_neg ?_
    simp only [Bool.or_eq_true, decide_eq_true_eq, List.isEmpty_iff, Bool.not_eq_true', all_eq_false_iff, Site.holdsReply]
    exact fun h => h.elim (fun h => h.elim (fun h => h.elim (Nat.not_le.2 hw) hne) hp) hf

/-! ## The end of a reply window -/

/-- A record rewritten at another node is not seen. -/
theorem node_setNode_ne {c : Clc} {m n : Nat} {r : NodeRecord} (hm : 1 ≤ m) (hn : 1 ≤ n) (h : m ≠ n) :
    (c.setNode n r).node m = c.node m := by
  simp only [Clc.node, Clc.setNode, List.getD_eq_getElem?_getD, List.getElem?_set_ne (show n - 1 ≠ m - 1 by omega)]

/-- A poll's command is the same after the node's record has been rewritten with its delivery and mode as they were. -/
theorem commandOf_setNode {c : Clc} {n : Nat} {r : NodeRecord} (h : commandOf r = commandOf (c.node n)) :
    commandOf ((c.setNode n r).node n) = commandOf (c.node n) := by
  simp only [Clc.node, Clc.setNode, List.getD_eq_getElem?_getD, List.getElem?_set_self'] at h ⊢
  cases hr : c.nodes[n - 1]? with
  | none => rfl
  | some x => simpa [hr] using h

/-- An errored attempt in the node's record (R9). -/
theorem errored_eq (kind : CellError) (r : NodeRecord) :
    r.errored kind =
      { r with errorCount := if r.errorCount < 65535 then r.errorCount + 1 else r.errorCount, lastError := some kind } := rfl

/-- A valid reply in the node's record (R8, R14, R15). -/
theorem replied_eq (command : PollCommand) (reply : SampleReply) (r : NodeRecord) :
    r.replied command reply =
      { r with
        lastSequence := some reply.sequence
        delivered :=
          if reply.reference = decide (r.mode = .reference) then
            r.delivered || decide (command = if r.mode = .reference then .reference else .normal)
          else false } := by
  have hcommand : (command == r.mode.command) = decide (command = if r.mode = .reference then .reference else .normal) := by
    cases r.mode <;> exact Bool.beq_eq_decide_eq ..
  have hagrees : r.mode.agrees reply.reference = true ↔ reply.reference = decide (r.mode = .reference) := by
    cases r.mode <;> simp [NodeMode.agrees]
  simp only [NodeRecord.replied, hcommand, hagrees]

/-- The slot after a valid reply (R8). -/
theorem replySlot_eq (mode : NodeMode) (reply : SampleReply) :
    replySlot mode reply =
      if mode = .normal ∧ reply.reference = false then .sample reply.count.toInt reply.overRange else .withheld := by
  cases mode <;> cases hr : reply.reference <;> simp [replySlot, hr]

/-- An error brings a second attempt. -/
theorem retries_error (kind : CellError) (number : Nat) :
    (Judgement.error kind).retries number = true ↔ number = 1 ∧ kind ≠ .stale ∧ kind ≠ .excitation := by
  have hkind : kind.retriable = true ↔ kind ≠ .stale ∧ kind ≠ .excitation := by
    cases kind <;> simp [CellError.retriable]
  rw [Judgement.retries, Bool.and_eq_true, hkind, beq_iff_eq, and_comm]

section
variable {s : State} {a : Attempt} {received : List CellChar} {j : Judgement}

/-- A reply window in a scan: the node is polled again, or settled. -/
theorem windowEnded_scan {sc : Scan} (ha : s.clc.attempt = some a) (hs : s.clc.scan = some sc)
    (hj : judgeReplyIn s.rnc.site a.node (s.clc.node a.node).lastSequence received = j) :
    windowEnded received s =
      if j.retries a.number then
        pollNode a.node 2 (setClc { (recordReply a j s).clc with scan := some (sc.note (s.clc.node a.node).mode a j received) }
          (recordReply a j s))
      else settleNext ((sc.note (s.clc.node a.node).mode a j received).settle a.node (j.slot (s.clc.node a.node).mode))
        (recordReply a j s) := by
  subst hj
  rw [windowEnded, ha]
  dsimp only
  rw [hs]

/-- A reply window in HALTING: the node is polled again, or the next. -/
theorem windowEnded_halting (ha : s.clc.attempt = some a) (hs : s.clc.scan = none)
    (hj : judgeReplyIn s.rnc.site a.node (s.clc.node a.node).lastSequence received = j) :
    windowEnded received s =
      if j.retries a.number then pollNode a.node 2 (recordReply a j s) else pollStrays (recordReply a j s) := by
  subst hj
  rw [windowEnded, ha]
  dsimp only
  rw [hs]

end

/-- A node is settled and the next one polled. -/
theorem settleNext_polls {s : State} {sc : Scan} {m : Nat} {rest : List Nat} (h : sc.todo.tail = m :: rest) :
    settleNext sc s =
      { s with clc := { s.clc with
        scan := some { sc with todo := m :: rest }
        attempt := some { node := m, number := 1, command := commandOf (s.clc.node m) } } } := by
  rw [settleNext]
  simp only [h]
  rw [pollNode_eq]
  rfl

/-- The last node is settled and the scan completes. -/
theorem settleNext_completes {s : State} {sc : Scan} (h : sc.todo.tail = []) :
    settleNext sc s = completeScan { sc with todo := [] } s := by
  rw [settleNext]
  simp only [h]

/-- A completed scan with none pending. -/
theorem completeScan_over {s : State} (sc : Scan) (hp : s.clc.scanPending = false) (hc : s.stc.checking = false)
    (hq : s.tli.directives = [] ∨ s.tli.executing = true ∧ s.tli.directives.length ≤ 1) :
    ScanOver { s.clc with scan := none, attempt := none } (completeScan sc s) := by
  have hover := finishScan_over sc hc hq
  have hnone : ¬ (finishScan sc s).clc.scanPending = true := by
    rw [hover.clc]
    simp [hp]
  have hends : completeScan sc s = finishScan sc s := if_neg hnone
  rw [hends]
  exact hover

/-- A node settled in a scan, in a calm state: the next one is polled, or the scan completes. -/
theorem exec_settled {s : State} {now : Stamp} {a : Attempt} {received : List CellChar} {r : NodeRecord} {done : Scan}
    (h : s.calm) (hn : 1 ≤ a.node)
    (he : windowEnded received (atTime now s) = settleNext done (atTime now { s with clc := s.clc.setNode a.node r })) :
    (∀ m rest, done.todo.tail = m :: rest → 1 ≤ m → m ≠ a.node →
      exec (.replyWindowEnd now received) s = .next (taken now { s with clc :=
        { s.clc.setNode a.node r with
          scan := some { done with todo := m :: rest }
          attempt := some { node := m, number := 1, command := commandOf (s.clc.node m) } } })) ∧
    (done.todo.tail = [] →
      exec (.replyWindowEnd now received) s =
          .next (finish (completeScan { done with todo := [] } (atTime now { s with clc := s.clc.setNode a.node r }))) ∧
        (s.clc.scanPending = false → s.tli.directives.length ≤ 1 →
          ∃ t, exec (.replyWindowEnd now received) s = .next t ∧ t.clc.scan = none ∧ t.clc.attempt = none)) := by
  refine ⟨fun m rest ht hm hne => ?_, fun ht => ?_⟩
  · rw [settleNext_polls ht] at he
    rw [← node_setNode_ne (r := r) hm hn hne]
    exact handle_calm h he h.1.2 rfl rfl
  · rw [settleNext_completes ht] at he
    refine ⟨?_, fun hp hq => ?_⟩
    · rw [← he]
      exact congrArg _ (if_pos h.1.1)
    · have hover := completeScan_over { done with todo := [] } (s := atTime now { s with clc := s.clc.setNode a.node r }) hp h.1.2
        (h.2.imp_right fun hx => ⟨hx, hq⟩)
      obtain ⟨t, hrun, hscan⟩ := handle_scanOver (now := now) h.1.1 he hover
      exact ⟨t, hrun, by rw [hscan.clc], by rw [hscan.clc]⟩

/-- A node told NORMAL in HALTING, in a calm state: the next one is polled, or none is left. -/
theorem exec_told {s : State} {now : Stamp} {a : Attempt} {received : List CellChar} {r : NodeRecord} (h : s.calm)
    (hn : 1 ≤ a.node) (hl : s.clc.line = .normal)
    (he : windowEnded received (atTime now s) = pollStrays (atTime now { s with clc := s.clc.setNode a.node r })) :
    (s.clc.haltTodo = [] →
      exec (.replyWindowEnd now received) s =
        .next (taken now { s with clc := { s.clc.setNode a.node r with attempt := none } })) ∧
    (∀ m rest, s.clc.haltTodo = m :: rest → 1 ≤ m → m ≠ a.node →
      exec (.replyWindowEnd now received) s =
        .next (taken now { s with clc :=
          { s.clc.setNode a.node r with
            attempt := some { node := m, number := 1, command := commandOf (s.clc.node m) }, haltTodo := rest } })) := by
  have htodo : (atTime now { s with clc := s.clc.setNode a.node r }).clc.haltTodo = s.clc.haltTodo := rfl
  refine ⟨fun ht => ?_, fun m rest ht hm hne => ?_⟩
  · rw [pollStrays, htodo, ht] at he
    exact handle_calm h he h.1.2 rfl rfl
  · have hbroken : ¬ ((atTime now { s with clc := s.clc.setNode a.node r }).clc.line == .broken) = true := by
      rw [beq_iff_eq]
      exact fun hb => nomatch hl.symm.trans hb
    rw [pollStrays, htodo, ht] at he
    dsimp only at he
    rw [if_neg hbroken, pollNode_eq] at he
    rw [← node_setNode_ne (r := r) hm hn hne]
    exact handle_calm h he h.1.2 rfl rfl

/-- Whether a scan waits is kept by everything that a completed scan delivers. -/
theorem scanPending_scanned (b : Bool) : Scanned fun s => s.clc.scanPending = b where
  frame _ _ h := h
  psu _ _ h := h
  axm _ _ h := h
  vfu _ _ h := h
  hand _ _ h := handUpdate_survives (P := fun t => t.clc.scanPending = b) (fun _ _ h => h) h
  mark _ _ h := h
  free _ _ h := h
  nodes _ _ _ h := h
  wge _ _ _ h := h
  rnc _ _ h := h
  weight _ _ h := h
  sample _ _ h := h
  reply st r s h := by rw [answerHeld_eq]; exact h

/-- A completed scan whose deliveries show no order. -/
theorem completeScan_ordered {s : State} {sc : Scan} (hp : s.clc.scanPending = false)
    (hs : scanOrderShows sc { s with clc := { s.clc with scan := none, attempt := none } } = false) :
    completeScan sc s =
      (scanDeliveries sc { s with clc := { s.clc with scan := none, attempt := none } }).foldl (fun s act => act s)
        { s with clc := { s.clc with scan := none, attempt := none } } := by
  have hnone : (finishScan sc s).clc.scanPending = false := 
    scanned_scanDeliveries (s := setClc { s.clc with scan := none, attempt := none } s) (scanPending_scanned false) hp
  have hends : completeScan sc s = finishScan sc s := if_neg (by simp [hnone])
  rw [hends]
  exact if_neg (ne_true_of_eq_false hs)

/-- A scan's part after a valid reply: its entry, its reference count and its slot (R8, R19). -/
theorem note_valid (mode : NodeMode) (a : Attempt) (reply : SampleReply) (received : List CellChar) (sc : Scan) :
    (sc.note mode a (.valid reply) received).settle a.node ((Judgement.valid reply).slot mode) =
      { sc with
        entries := sc.entries ++ [attemptEntry a .valid received]
        references :=
          if mode = .reference ∧ reply.reference = true then sc.references ++ [(a.node, reply.count.toInt)] else sc.references
        slots := sc.slots.map fun (n, old) =>
          if n = a.node then
            (n, if mode = .normal ∧ reply.reference = false then .sample reply.count.toInt reply.overRange else .withheld)
          else (n, old) } := by
  have hreferences : (if mode == .reference && reply.reference then sc.references ++ [(a.node, reply.count.toInt)] else sc.references) =
      if mode = .reference ∧ reply.reference = true then sc.references ++ [(a.node, reply.count.toInt)] else sc.references :=
    if_congr (by rw [Bool.and_eq_true, beq_iff_eq]) rfl rfl
  exact congrArg₂
    (fun references slot => { sc with
      entries := sc.entries ++ [attemptEntry a .valid received]
      references := references
      slots := sc.slots.map fun (n, old) => if n = a.node then (n, slot) else (n, old) })
    hreferences (replySlot_eq mode reply)

/-- A poll that is sent once more after an error carries the command of the node's record. -/
theorem commandOf_errored (c : Clc) (n : Nat) (kind : CellError) :
    commandOf ((c.setNode n ((c.node n).errored kind)).node n) = commandOf (c.node n) := commandOf_setNode rfl

/-- Settles O30: a reply window by scan or HALTING, by what the checks say, and by the nodes left; and a scan's deliveries. -/
theorem replyWindowSettlesNode : Obligations.ReplyWindowSettlesNode := by
  refine ⟨?_, fun s sc hp => ?_⟩
  · intro s now received a ha hn run r judged poll errored replied again
    have hpoll (kind : CellError) : poll a.node 2 =
        { node := a.node, number := 2, command := commandOf ((s.clc.setNode a.node (errored kind)).node a.node) } :=
       congrArg (Attempt.mk a.node 2) (commandOf_errored s.clc a.node kind).symm
    have hrecord (reply : SampleReply) : recordReply a (.valid reply) (atTime now s) =
        atTime now { s with clc := s.clc.setNode a.node (replied reply) } :=
      congrArg (fun r => atTime now { s with clc := s.clc.setNode a.node r }) (replied_eq a.command reply r)
    refine ⟨fun sc h hs => ?_, fun ref h hs hl => ?_⟩
    · intro noted onward
      have hscan := fun j hj => windowEnded_scan (s := atTime now s) (j := j) (received := received) ha hs hj
      refine ⟨fun kind hj => ⟨fun hagain => ?_, fun hagain => ?_⟩, fun reply hj => ?_⟩
      · have he := (hscan _ hj).trans (if_pos ((retries_error kind a.number).2 hagain))
        rw [pollNode_eq] at he
        rw [hpoll kind]
        exact handle_calm h he h.1.2 rfl rfl
      · have he := (hscan _ hj).trans (if_neg (mt (retries_error kind a.number).1 hagain))
        exact exec_settled h hn he
      · have he := (hscan _ hj).trans (if_neg (by simp [Judgement.retries]))
        rw [hrecord reply] at he
        exact exec_settled h hn (he.trans (congrArg (settleNext · _) (note_valid ..)))
    · intro onward
      have hhalt := fun j hj => windowEnded_halting (s := atTime now s) (j := j) (received := received) ha hs hj
      refine ⟨fun kind hj => ⟨fun hagain => ?_, fun hagain => ?_⟩, fun reply hj => ?_⟩
      · have he := (hhalt _ hj).trans (if_pos ((retries_error kind a.number).2 hagain))
        rw [pollNode_eq] at he
        rw [hpoll kind]
        exact handle_calm (held_calm h) he h.1.2 rfl rfl
      · have he := (hhalt _ hj).trans (if_neg (mt (retries_error kind a.number).1 hagain))
        exact exec_told (held_calm h) hn hl he
      · have he := (hhalt _ hj).trans (if_neg (by simp [Judgement.retries]))
        rw [hrecord reply] at he
        exact exec_told (held_calm h) hn hl he
  · intro cleared done hs
    rw [completeScan_ordered hp hs]
    refine ⟨fun hm => ?_, fun hm => ?_⟩
    · have hacts : scanDeliveries sc cleared = [updateNodes sc.slots, workHandoff sc.number sc.slots, referenceCounts sc.references] := by
        simp [scanDeliveries, hm, cleared]
      rw [hacts]
      rfl
    · have hacts : scanDeliveries sc cleared =
          [updateNodes sc.slots, workHandoff sc.number sc.slots, referenceCounts sc.references, offerMirror sc] := by
        simp [scanDeliveries, hm, cleared]
      rw [hacts]
      rfl

/-! ## Node records at their limit -/

/-- The scan that takes a node to the lost limit. -/
theorem nodeReachesLimit_lost {s : State} {node : Nat} (hr : s.rnc.runState = .warmup ∨ s.rnc.runState = .run)
    (hs : (s.clc.node node).state = .searching ∨ (s.clc.node node).state = .suspect)
    (hm : s.rnc.site.lostLimit ≤ (s.clc.node node).missed + 1) :
    nodeReachesLimit node s =
      offer (.event s.ylu.timebase (.nodeLost node))
        { s with
          clc := s.clc.setNode node { s.clc.node node with state := .lost, missed := (s.clc.node node).missed + 1 } } :=
  if_pos (by simpa [scanning_iff.2 hr, hm] using hs)

/-- Another node is not lost. -/
theorem nodeReachesLimit_none {s : State} {node : Nat}
    (h : (s.clc.node node).state ≠ .searching ∧ (s.clc.node node).state ≠ .suspect ∨
      (s.clc.node node).missed + 1 < s.rnc.site.lostLimit) : nodeReachesLimit node s = s := by
  refine if_neg fun hlost => ?_
  simp only [Bool.and_eq_true, Bool.or_eq_true, beq_iff_eq, decide_eq_true_eq] at hlost
  obtain ⟨⟨-, hs⟩, hm⟩ := hlost
  rcases h with ⟨h1, h2⟩ | h
  · exact hs.elim h1 h2
  · omega

/-! ## Decks -/

/-- An incomplete scan within the hold limit. -/
theorem incomplete_held {limit : Nat} {d : Deck} (hf : d.faulted = false) (hl : d.hold < limit) :
    d.incomplete limit =
      { d with
        hold := if d.hold < 255 then d.hold + 1 else d.hold, stable := false, trackRun := 0
        state := if d.initialZero = none then .noZero else .held } := by
  have hfaults : d.faults limit = false := by simp [Deck.faults, hf]; omega
  have hhold : 1 ≤ if d.hold < 255 then d.hold + 1 else d.hold := by split_ifs <;> omega
  simp only [Deck.incomplete, hfaults, Deck.derived, saturatingSucc, Bool.false_eq_true, if_false, hf, hhold, if_true,
    Option.isNone_iff_eq_none]

/-- An incomplete scan of a deck at fault. -/
theorem incomplete_faulted {limit : Nat} {d : Deck} (hf : d.faulted = true) :
    d.incomplete limit =
      { d with hold := if d.hold < 255 then d.hold + 1 else d.hold, stable := false, trackRun := 0, state := .fault } := by
  simp only [Deck.incomplete, Deck.faults, hf, Deck.derived, saturatingSucc, Bool.not_true, Bool.false_and, Bool.false_eq_true,
    if_false, if_true]

/-- An incomplete scan that takes a deck past the hold limit. -/
theorem incomplete_faults {limit : Nat} {d : Deck} (hf : d.faulted = false) (hl : limit ≤ d.hold) :
    d.incomplete limit =
      { d with
        hold := if d.hold < 255 then d.hold + 1 else d.hold, stable := false, trackRun := 0
        filter := [], stability := [], value := none, faulted := true, overFlag := false, state := .fault } := by
  have hfaults : d.faults limit = true := by simp [Deck.faults, hf]; omega
  simp only [Deck.incomplete, hfaults, Deck.derived, Deck.emptied, saturatingSucc, if_true]

/-- A deck faults exactly when it has not and the scan takes it past the hold limit. -/
theorem faults_iff {limit : Nat} {d : Deck} : d.faults limit = true ↔ d.faulted = false ∧ limit ≤ d.hold := by
  simp [Deck.faults]

theorem deckPassesLimit_some {s : State} {deck : Nat} {d : Deck} (hd : s.wge.deck deck = some d)
    (hr : s.rnc.runState = .warmup ∨ s.rnc.runState = .run) :
    deckPassesLimit deck s =
      if d.faults s.rnc.site.holdLimit then
        raise (.deckFault deck) (setDeck deck (d.incomplete s.rnc.site.holdLimit) s)
      else s := by
  rw [deckPassesLimit, hd]
  simp only [scanning_iff.2 hr, Bool.true_and]

/-! ## The samples of a deck -/

theorem deckSamples_cons_some {slots : List (Nat × Slot)} {n : Nat} {rest : List Nat} {samples : List CellSample} :
    deckSamples slots (n :: rest) = some samples ↔
      ∃ count flag tail, slots.lookup n = some (.sample count flag) ∧ deckSamples slots rest = some tail ∧
        samples = ⟨n, count, flag⟩ :: tail := by
  rw [deckSamples]
  split
  · next count flag tail hn hrest =>
    refine ⟨fun h => ⟨count, flag, tail, hn, hrest, (Option.some.inj h).symm⟩, ?_⟩
    rintro ⟨count', flag', tail', hn', hrest', rfl⟩
    cases hn.symm.trans hn'
    cases hrest.symm.trans hrest'
    rfl
  · next h =>
    refine iff_of_false (by simp) ?_
    rintro ⟨count, flag, tail, hn, hrest, -⟩
    exact h count flag tail hn hrest

/-- A deck is complete with the samples of its cells. -/
theorem deckSamples_some {slots : List (Nat × Slot)} : ∀ {nodes : List Nat} {samples : List CellSample},
    deckSamples slots nodes = some samples →
      (samples.map fun x => x.node) = nodes ∧ ∀ x ∈ samples, slots.lookup x.node = some (.sample x.count x.overRange)
  | [], samples, h => by
    cases h
    simp
  | n :: rest, samples, h => by
    obtain ⟨count, flag, tail, hn, hrest, rfl⟩ := deckSamples_cons_some.1 h
    obtain ⟨hnodes, hslots⟩ := deckSamples_some hrest
    exact ⟨by rw [List.map_cons, hnodes], List.forall_mem_cons.2 ⟨hn, hslots⟩⟩

/-- A deck is incomplete exactly when one of its cells has no sample. -/
theorem deckSamples_none {slots : List (Nat × Slot)} : ∀ {nodes : List Nat},
    deckSamples slots nodes = none ↔ ∃ n ∈ nodes, ∀ count flag, slots.lookup n ≠ some (.sample count flag)
  | [] => by simp [deckSamples]
  | n :: rest => by
    have hrest := deckSamples_none (slots := slots) (nodes := rest)
    simp only [List.mem_cons, exists_eq_or_imp, ← hrest, deckSamples]
    split
    · next count flag tail hn htail => simp [hn, htail]
    · next h =>
      refine iff_of_true rfl ?_
      by_contra hboth
      simp only [not_or, not_forall, not_not] at hboth
      obtain ⟨⟨count, flag, hn⟩, htail⟩ := hboth
      obtain ⟨tail, htail⟩ := Option.ne_none_iff_exists'.1 htail
      exact h count flag tail hn htail

/-! ## A complete scan -/

theorem foldl_max_le {xs : List Int} {x c : Int} : xs.foldl max x ≤ c ↔ x ≤ c ∧ ∀ y ∈ xs, y ≤ c := by
  induction xs generalizing x with
  | nil => simp
  | cons y ys ih => simp [ih, and_assoc]

theorem le_foldl_min {xs : List Int} {x c : Int} : c ≤ xs.foldl min x ↔ c ≤ x ∧ ∀ y ∈ xs, c ≤ y := by
  induction xs generalizing x with
  | nil => simp
  | cons y ys ih => simp [ih, and_assoc]

/-- The spread of a list is bounded exactly when every difference in it is. -/
theorem spread_le_iff {l : List Int} {b : Int} (hb : 0 ≤ b) : spread l ≤ b ↔ ∀ x ∈ l, ∀ y ∈ l, x - y ≤ b := by
  cases l with
  | nil => simpa [spread] using hb
  | cons x xs =>
    have hmax : ∀ m, xs.foldl max x ≤ m ↔ ∀ y ∈ x :: xs, y ≤ m := fun m => by rw [foldl_max_le, List.forall_mem_cons]
    have hmin : ∀ m, m ≤ xs.foldl min x ↔ ∀ y ∈ x :: xs, m ≤ y := fun m => by rw [le_foldl_min, List.forall_mem_cons]
    rw [spread, sub_le_iff_le_add, hmax]
    refine forall₂_congr fun y _ => ?_
    rw [← sub_le_iff_le_add', hmin]
    exact forall₂_congr fun z _ => sub_le_comm

theorem sumInt_eq (l : List Int) : sumInt l = l.sum := (List.sum_eq_foldl ..).symm

/-- The work of a complete scan on a deck (R26 to R29, R32). -/
theorem complete_eq (c : CalSet) (sum : Int) (clamped : Bool) (d : Deck) :
    let filter := (d.filter ++ [sum - d.zero]).drop (d.filter.length + 1 - c.filterLength)
    let f := roundDiv filter.sum filter.length
    let stability := (d.stability ++ [f]).drop (d.stability.length + 1 - c.stabilityWindow)
    d.complete c sum clamped =
      { d with
        filter := filter
        value := some f
        stability := stability
        stable := decide (stability.length = c.stabilityWindow ∧
          ∀ x ∈ stability, ∀ y ∈ stability, x - y ≤ ((c.motionBand * c.division * 500 : Nat) : Int))
        hold := 0, faulted := false, overFlag := clamped
        state := if d.initialZero = none then .noZero else .valid } := by
  intro filter f stability
  have hsteady : (decide (stability.length = c.stabilityWindow) && decide (spread stability ≤ (c.motionBand * c.division * 500 : Nat))) =
      decide (stability.length = c.stabilityWindow ∧
        ∀ x ∈ stability, ∀ y ∈ stability, x - y ≤ ((c.motionBand * c.division * 500 : Nat) : Int)) := by
    rw [← Bool.decide_and]
    exact decide_eq_decide.2 (and_congr_right fun _ => spread_le_iff (Int.natCast_nonneg _))
  have hstate : (if d.initialZero.isNone then DeckState.noZero else if 1 ≤ 0 then .held else .valid) =
      if d.initialZero = none then .noZero else .valid :=
    if_congr Option.isNone_iff_eq_none rfl rfl
  rw [Deck.complete]
  dsimp only
  rw [sumInt_eq]
  exact congrArg₂
    (fun stable state => { d with
      filter := filter, value := some f, stability := stability, stable := stable
      hold := 0, faulted := false, overFlag := clamped, state := state })
    hsteady hstate

/-! ## The work of a handoff on one deck -/

section
variable {s : State} {slots : List (Nat × Slot)} {i : Nat} {d : Deck}

/-- The zero of a deck without an initial zero is reloaded while no passage exists (R34, log 12). -/
theorem loadZero_eq (z : Int) (s : State) (d : Deck) :
    d.loadZero z s.idle = { d with zero := if d.initialZero = none ∧ s.psu.passage = none then z else d.zero } := by
  simp only [Deck.loadZero, Bool.and_eq_true, Option.isNone_iff_eq_none, State.idle]
  split_ifs <;> rfl

/-- A complete scan of a deck. -/
theorem workDeck_complete {samples : List CellSample} (hd : s.wge.deck i = some d)
    (h : deckSamples slots (maskNodes (s.setInUse.deck i).mask) = some samples) :
    workDeck slots i s =
      zeroActions i
        ((d.loadZero (s.setInUse.deck i).zeroCal s.idle).complete s.setInUse (deckSum s.setInUse samples)
          (deckOver s.setInUse samples))
        (if d.faulted = true then offer (.event s.ylu.timebase (.deckRecovered i)) s else s) := by
  have hfaulted : (d.loadZero (s.setInUse.deck i).zeroCal s.idle).faulted = d.faulted := by rw [loadZero_eq]
  rw [workDeck, hd]
  dsimp only
  rw [h, hfaulted]
  rfl

/-- An incomplete scan of a deck. -/
theorem workDeck_incomplete (hd : s.wge.deck i = some d)
    (h : deckSamples slots (maskNodes (s.setInUse.deck i).mask) = none) :
    workDeck slots i s =
      setDeck i ((d.loadZero (s.setInUse.deck i).zeroCal s.idle).incomplete s.rnc.site.holdLimit)
        (if d.faulted = false ∧ s.rnc.site.holdLimit ≤ d.hold then offer (.event s.ylu.timebase (.deckFault i)) s else s) := by
  have hfaults : (d.loadZero (s.setInUse.deck i).zeroCal s.idle).faults s.rnc.site.holdLimit = d.faults s.rnc.site.holdLimit := by
    rw [loadZero_eq]
    rfl
  rw [workDeck, hd]
  dsimp only
  rw [h, hfaults]
  exact congrArg (setDeck i _) (if_congr faults_iff rfl rfl)

end

/-! ## The moves of node records -/

/-- A slot that stands for a valid reply. -/
theorem answered_iff {slot : Slot} : slot.answered = true ↔ (∃ count flag, slot = .sample count flag) ∨ slot = .withheld := by
  cases slot <;> simp [Slot.answered]

/-- A node's move without an event, and then the rest. -/
theorem updateNodes_moved {n : Nat} {slot : Slot} {s : State} {r : NodeRecord} (rest : List (Nat × Slot))
    (h : (s.clc.node n).settled n s.rnc.site.lostLimit slot.answered = (r, none)) :
    updateNodes ((n, slot) :: rest) s = updateNodes rest { s with clc := s.clc.setNode n r } := by
  rw [updateNodes, h]

/-- A node's move with its event, and then the rest. -/
theorem updateNodes_raised {n : Nat} {slot : Slot} {s : State} {r : NodeRecord} {e : Event} (rest : List (Nat × Slot))
    (h : (s.clc.node n).settled n s.rnc.site.lostLimit slot.answered = (r, some e)) :
    updateNodes ((n, slot) :: rest) s =
      updateNodes rest (offer (.event s.ylu.timebase e) { s with clc := s.clc.setNode n r }) := by
  rw [updateNodes, h]
  rfl

/-- The move of a node that answered (R11). -/
theorem settled_answered (n lostLimit : Nat) (r : NodeRecord) :
    r.settled n lostLimit true =
      ({ r with state := .live, missed := 0 }, if r.state = .lost then some (.nodeRecovered n) else none) := by
  simp [NodeRecord.settled]

/-- The move of a node that did not answer (R11). -/
theorem settled_unanswered (n lostLimit : Nat) (r : NodeRecord) :
    r.settled n lostLimit false =
      match r.state with
      | .live => ({ r with state := .suspect, missed := 1 }, none)
      | .lost | .unassigned => (r, none)
      | .searching | .suspect =>
        if lostLimit ≤ r.missed + 1 then ({ r with state := .lost, missed := r.missed + 1 }, some (.nodeLost n))
        else ({ r with missed := r.missed + 1 }, none) := by
  rw [NodeRecord.settled]
  cases r.state <;> rfl

/-- Settles O31: nodes and decks at their limits, a deck's work in a handoff, and the moves of the node records one by one. -/
theorem limitsLoseNodesAndFaultDecks : Obligations.LimitsLoseNodesAndFaultDecks := by
  refine ⟨fun s now node h hr => ⟨fun hs hm => ?_, fun hn => ?_⟩, fun s now deck d h hr hd => ⟨fun hf hl => ?_, fun hn => ?_⟩,
    fun slots nodes => ⟨deckSamples_none, fun samples => deckSamples_some⟩, complete_eq,
    fun limit d => ⟨incomplete_held, incomplete_faulted, incomplete_faults⟩, fun s slots i d hd => ?_, fun _ => rfl,
    fun s n slot rest => ?_⟩
  · exact handle_calm h (nodeReachesLimit_lost (s := atTime now s) hr hs hm) h.1.2 (offer_keeps ..).1 (offer_keeps ..).2.1
  · exact handle_nothing h (nodeReachesLimit_none (s := atTime now s) hn)
  · have hpass := (deckPassesLimit_some (s := atTime now s) hd hr).trans (if_pos (faults_iff.2 ⟨hf, hl⟩))
    rw [incomplete_faults (limit := (atTime now s).rnc.site.holdLimit) hf hl] at hpass
    exact handle_calm h hpass h.1.2 (offer_keeps ..).1 (offer_keeps ..).2.1
  · refine handle_nothing h ((deckPassesLimit_some (s := atTime now s) hd hr).trans (if_neg fun hfaults => ?_))
    obtain ⟨hf, hl⟩ := faults_iff.1 hfaults
    rcases hn with hn | hn
    · exact absurd hf (by simp [hn])
    · exact absurd hl (Nat.not_le.2 hn)
  · intro c limit loaded
    have hloaded : d.loadZero (c.deck i).zeroCal s.idle = loaded := loadZero_eq ..
    refine ⟨fun samples hsamples => ?_, fun hsamples => ?_⟩
    · rw [← hloaded]
      exact workDeck_complete hd hsamples
    · rw [← hloaded]
      exact workDeck_incomplete hd hsamples
  · intro run r limit answered moved raised
    have hanswered : answered ↔ slot.answered = true := answered_iff.symm
    refine ⟨fun ha hr => updateNodes_moved rest ?_, fun ha hr => updateNodes_raised rest ?_,
      fun ha hr => updateNodes_moved rest ?_, fun ha hr hm => updateNodes_moved rest ?_,
      fun ha hr hm => updateNodes_raised rest ?_, fun ha hr => updateNodes_moved rest ?_⟩
    · rw [hanswered.1 ha, settled_answered]
      exact congrArg _ (if_neg hr)
    · rw [hanswered.1 ha, settled_answered]
      exact congrArg _ (if_pos hr)
    all_goals rw [Bool.eq_false_iff.2 (mt hanswered.2 ha), settled_unanswered]
    · rw [hr]
    · rcases hr with hr | hr <;> rw [hr] <;> exact if_neg (Nat.not_le.2 hm)
    · rcases hr with hr | hr <;> rw [hr] <;> exact if_pos hm
    · rw [hr]

/-! ## Line breaks -/

/-- Records with the same errors, node by node. -/
theorem node_errors {c c' : Clc} (h : errorFields c.nodes = errorFields c'.nodes) (n : Nat) :
    (c.node n).errorCount = (c'.node n).errorCount ∧ (c.node n).lastError = (c'.node n).lastError := by
  have hget : (errorFields c.nodes)[n - 1]? = (errorFields c'.nodes)[n - 1]? := by rw [h]
  simp only [errorFields, List.getElem?_map] at hget
  simp only [Clc.node, List.getD_eq_getElem?_getD]
  cases hr : c.nodes[n - 1]? with
  | none =>
    cases hr' : c'.nodes[n - 1]? with
    | none => exact ⟨rfl, rfl⟩
    | some r' => simp [hr, hr'] at hget
  | some r =>
    cases hr' : c'.nodes[n - 1]? with
    | none => simp [hr, hr'] at hget
    | some r' => simpa [hr, hr'] using hget

theorem node_setNode_same {c : Clc} {n : Nat} {r : NodeRecord} (h1 : 1 ≤ n) (hn : n ≤ c.nodes.length) :
    (c.setNode n r).node n = r := by
  simp only [Clc.node, Clc.setNode, List.getD_eq_getElem?_getD, List.getElem?_set_self (show n - 1 < c.nodes.length by omega)]
  rfl

/-- Following a poll list keeps the errors. -/
theorem begun_errors (list : List Nat) (c : Clc) : errorFields (c.begun list).nodes = errorFields c.nodes := by
  have hfollow : ∀ (b : Bool) (r : NodeRecord), ((r.follow b).errorCount, (r.follow b).lastError) = (r.errorCount, r.lastError) := by
    intro b r
    simp only [NodeRecord.follow]
    split_ifs <;> rfl
  refine List.ext_getElem? fun i => ?_
  simp only [errorFields, Clc.begun, List.getElem?_map, List.getElem?_mapIdx, Option.map_map]
  exact congrArg (Option.map · _) (funext fun r => hfollow _ r)

/-- A scan that completes in BREAK, with the one that was pending. -/
theorem completeScan_broken {s : State} (sc : Scan) (hl : s.clc.line = .broken) (hc : s.stc.checking = false)
    (hq : s.tli.directives = [] ∨ s.tli.executing = true ∧ s.tli.directives.length ≤ 1) :
    ∃ c, ScanOver c (completeScan sc s) ∧ c.line = .broken ∧ c.scan = none ∧ c.attempt = none ∧
      errorFields c.nodes = errorFields s.clc.nodes := by
  have hover := finishScan_over sc hc hq
  by_cases hp : (finishScan sc s).clc.scanPending = true
  · have hends : completeScan sc s = beginScan (finishScan sc s) := if_pos hp
    have hline : (finishScan sc s).clc.line = .broken := by rw [hover.clc]; exact hl
    obtain ⟨sc', hbegin⟩ := beginScan_ends (.inl hline)
    rw [hends, hbegin]
    exact ⟨_, finishScan_over sc' hover.awake hover.queue, hline, rfl, rfl, (begun_errors _ _).trans hover.errors⟩
  · have hends : completeScan sc s = finishScan sc s := if_neg hp
    rw [hends]
    exact ⟨_, hover, hl, rfl, rfl, rfl⟩

/-- The error of an attempt that a break ends. -/
theorem breakError_eq (received : List CellChar) : breakError received = if received = [] then .timeout else .framing :=
  if_congr List.isEmpty_iff rfl rfl

/-- The rest of a scan settled NOT_POLLED (R12). -/
theorem leaveRest_eq (sc : Scan) :
    sc.leaveRest =
      { sc with
        todo := []
        entries := sc.entries ++ sc.todo.map fun n =>
          { node := n, attempt := none, outcome := .notPolled, status := none, count := none }
        slots := sc.slots.map fun (n, old) => if n ∈ sc.todo then (n, .notPolled) else (n, old) } := by
  have hslots : (sc.slots.map fun (n, old) => if sc.todo.contains n then (n, Slot.notPolled) else (n, old)) =
      sc.slots.map fun (n, old) => if n ∈ sc.todo then (n, .notPolled) else (n, old) :=
    List.map_congr_left fun _ _ => if_congr List.contains_iff_mem rfl rfl
  exact congrArg (fun slots => ({ sc with
    todo := []
    entries := sc.entries ++ sc.todo.map fun n =>
      { node := n, attempt := none, outcome := .notPolled, status := none, count := none }
    slots := slots } : Scan)) hslots

/-- A break that is watched for. -/
theorem breakSeen_normal {s : State} (received : List CellChar) (hl : s.clc.line = .normal) (ht : s.clc.lineTest = false)
    (hc : s.stc.checking = false) :
    breakSeen received s =
      breakAttempt received (offer (.event s.ylu.timebase .lineBreak) { s with clc := { s.clc with line := .broken } }) :=
  if_pos (by simp [hl, ht, hc])

/-- A break without an attempt in progress. -/
theorem breakAttempt_none {s : State} (received : List CellChar) (ha : s.clc.attempt = none) : breakAttempt received s = s := by
  rw [breakAttempt, ha]

/-- A break that ends an attempt of HALT. -/
theorem breakAttempt_halting {s : State} {a : Attempt} (received : List CellChar) (ha : s.clc.attempt = some a)
    (hs : s.clc.scan = none) :
    breakAttempt received s =
      setClc { (recordReply a (.error (breakError received)) s).clc with attempt := none, haltTodo := [] }
        (recordReply a (.error (breakError received)) s) := by
  rw [breakAttempt, ha]
  dsimp only
  rw [hs]

/-- A break that ends a scan. -/
theorem breakAttempt_scan {s : State} {a : Attempt} {sc : Scan} (received : List CellChar) (ha : s.clc.attempt = some a)
    (hs : s.clc.scan = some sc) :
    breakAttempt received s =
      completeScan
        (Scan.leaveRest { sc with
          todo := sc.todo.tail
          entries := sc.entries ++ [attemptEntry a (.error (breakError received)) received]
          slots := sc.slots.map fun (n, old) => if n = a.node then (n, .missing (breakError received)) else (n, old) })
        (recordReply a (.error (breakError received)) s) := by
  rw [breakAttempt, ha]
  dsimp only
  rw [hs]
  rfl

/-- The line's return. -/
theorem markSeen_broken {s : State} (hl : s.clc.line = .broken) (ht : s.clc.lineTest = false) :
    markSeen s = offer (.event s.ylu.timebase .lineRestored) { s with clc := { s.clc with line := .normal } } :=
  if_pos (by simp [hl, ht])

/-- Settles O32: a break by what it ends, and the line's return, each where it is watched for and where it is not. -/
theorem lineBreaksAndReturns : Obligations.LineBreaksAndReturns := by
  intro s now received h run broken kind
  refine ⟨fun hn => ?_, fun hl ht ha => ?_, fun a hl ht ha => ?_, fun hn => ?_, fun hl ht => ?_⟩
  · refine handle_nothing h (if_neg ?_)
    rcases hn with hn | hn <;> simp [hn]
  · have hseen := (breakSeen_normal (s := atTime now s) received hl ht h.1.2).trans (breakAttempt_none received ha)
    exact handle_calm h hseen h.1.2 (offer_keeps ..).1 (offer_keeps ..).2.1
  · intro r errored noted
    have hkind : breakError received = kind := breakError_eq received
    have hseen := breakSeen_normal (s := atTime now s) received hl ht h.1.2
    obtain ⟨hd, hx, -⟩ := offer_keeps s.tli (.event now .lineBreak)
    refine ⟨⟨hkind, rfl⟩, fun hs => ?_, fun sc hs => ⟨?_, leaveRest_eq _, fun hq => ?_⟩⟩
    · have hended := hseen.trans (breakAttempt_halting received ha hs)
      rw [hkind] at hended
      exact handle_calm h (t := { noted with clc := { noted.clc with attempt := none, haltTodo := [] } }) hended h.1.2 hd hx
    · have hended := hseen.trans (breakAttempt_scan received ha hs)
      rw [hkind] at hended
      refine (congrArg _ (if_pos h.1.1)).trans ?_
      rw [hended]
      rfl
    · have hended := hseen.trans (breakAttempt_scan received ha hs)
      rw [hkind] at hended
      obtain ⟨c, hover, hline, hscan, hattempt, herrors⟩ :=
        completeScan_broken _ (s := atTime now noted) rfl h.1.2
          (by rw [show (atTime now noted).tli.directives = s.tli.directives from hd,
            show (atTime now noted).tli.executing = s.tli.executing from hx]; exact h.2.imp_right fun hx => ⟨hx, hq⟩)
      obtain ⟨t, hrun, ht⟩ := handle_scanOver (now := now) h.1.1 hended hover
      refine ⟨t, hrun, by rw [ht.clc]; exact hline, by rw [ht.clc]; exact hscan, by rw [ht.clc]; exact hattempt, fun h1 hn => ?_⟩
      obtain ⟨hcount, hlast⟩ := node_errors (ht.errors.trans herrors) a.node
      have hnode : (atTime now noted).clc.node a.node = errored := node_setNode_same h1 hn
      rw [hnode] at hcount hlast
      exact ⟨hcount, hlast⟩
  · refine handle_nothing h (if_neg ?_)
    rcases hn with hn | hn <;> simp [hn]
  · exact handle_calm h (markSeen_broken (s := atTime now s) hl ht) h.1.2 (offer_keeps ..).1 (offer_keeps ..).2.1

end Sys2Proof.Machine
end

section
/-! SUPPORT. Rounding (00 "Rounding", R25, R26, R41 to R43), the weight record and its stream (R41 to R47), zero actions (R35, R38,
R39) and the input filters (R52 to R55). -/

namespace Sys2Proof.Machine

/-! ## Rounding -/

/-- The magnitude of a rounded quotient, against its dividend. -/
theorem roundMagnitude (k m : Nat) (hm : 0 < m) :
    2 * (m * ((2 * k + m) / (2 * m))) ≤ 2 * k + m ∧ 2 * k < 2 * (m * ((2 * k + m) / (2 * m))) + m := by
  have hle := Nat.mul_div_le (2 * k + m) (2 * m)
  have hlt := Nat.lt_mul_div_succ (2 * k + m) (show 0 < 2 * m by omega)
  rw [Nat.mul_add, Nat.mul_one] at hlt
  rw [Nat.mul_assoc] at hle hlt
  omega

/-- Rounding goes to the nearest integer, halves away from zero. -/
theorem roundDiv_nearest (n : Int) (m : Nat) (hm : 0 < m) :
    2 * (n - m * roundDiv n m).natAbs ≤ m ∧
    (2 * (n - m * roundDiv n m).natAbs = m → n.natAbs < (m * roundDiv n m).natAbs) := by
  obtain ⟨hle, hlt⟩ := roundMagnitude n.natAbs m hm
  have hround : (m : Int) * roundDiv n m =
      if n < 0 then -((m * ((2 * n.natAbs + m) / (2 * m)) : Nat) : Int) else ((m * ((2 * n.natAbs + m) / (2 * m)) : Nat) : Int) := by
    rw [roundDiv]
    split
    · rw [Int.mul_neg, Nat.cast_mul]
    · rw [Nat.cast_mul]
  rw [hround]
  generalize m * ((2 * n.natAbs + m) / (2 * m)) = p at hle hlt
  split <;> omega

/-- The deck sum, cell by cell (R26). -/
theorem deckSum_cons (c : CalSet) (x : CellSample) (rest : List CellSample) :
    deckSum c (x :: rest) = clampWeight ((c.cell x.node).weight x.count) + deckSum c rest := by
  simp only [deckSum, sumInt_eq, List.map_cons, List.sum_cons]

/-- The OVER mark, cell by cell (R25). -/
theorem deckOver_cons (c : CalSet) (x : CellSample) (rest : List CellSample) :
    deckOver c (x :: rest) = true ↔
      x.overRange = true ∨ 2000000000 < ((c.cell x.node).weight x.count).natAbs ∨ deckOver c rest = true := by
  have hlarge : 2000000000 < ((c.cell x.node).weight x.count).natAbs ↔
      cellLimit < (c.cell x.node).weight x.count ∨ (c.cell x.node).weight x.count < -cellLimit := by
    rw [cellLimit]
    omega
  simp only [deckOver, List.any_cons, Bool.or_eq_true, decide_eq_true_eq, hlarge, or_assoc]

/-- Settles O11: the quotient, the cells of a deck, an indication, and the range. -/
theorem roundingIsNearest : Obligations.RoundingIsNearest := by
  refine ⟨roundDiv_nearest, fun c x rest => ⟨rfl, rfl, deckSum_cons c x rest, deckOver_cons c x rest⟩, fun d grams => ?_,
    fun c decks weight => ?_⟩
  · rw [indicate, Nat.one_mul]
  · refine if_congr ?_ rfl (if_congr ?_ rfl rfl)
    · simp only [Bool.or_eq_true, List.any_eq_true, decide_eq_true_eq]
      refine or_congr_right ?_
      omega
    · omega

/-! ## SET_STREAM and the offer of a record -/

/-- SET_STREAM with a mirror byte out of range. -/
theorem setStream_bad {interval mirror : Byte} {s : State} (h : offOrOn mirror = none) :
    setStream interval mirror s = answer .badValue .nothing s := by
  simp only [setStream, h]

/-- SET_STREAM that is carried out. -/
theorem setStream_done {interval mirror : Byte} {s : State} {m : Bool} (h : offOrOn mirror = some m) :
    setStream interval mirror s =
      answer .done .nothing
        { s with wge := { s.wge with streamCount := 0 }, tli := { s.tli with interval := interval.toNat, mirror := m } } := by
  simp only [setStream, h]

theorem offerDue_iff {s : State} : s.offerDue = true ↔ s.tli.interval ≠ 0 ∧ s.tli.interval ≤ s.wge.streamCount + 1 := by
  simp [State.offerDue]

/-- A record offered while the transmitter sends waits in the WEIGHT slot. -/
theorem offerRecord_sending {s : State} {g : Frame} (r : WeightRecord) (h : s.tli.sending = some g) :
    offerRecord r s = { s with tli := { s.tli with weightSlot := some { record := r, foremost := s.foremost } } } := by
  have hlink : s.tli.offerWeight (weightFrame r s) = { s.tli with weightSlot := some (weightFrame r s) } := choose_sending h
  rw [offerRecord, hlink]
  rfl

/-- The stream count after a record at which an offer is due. -/
theorem countStream_due {s : State} (h : s.offerDue = true) : countStream s = { s with wge := { s.wge with streamCount := 0 } } := by
  simp only [countStream, h, Bool.or_true, if_true]

/-- The stream count after a record at which none is. -/
theorem countStream_early {s : State} (h : s.tli.interval = 0 ∨ s.wge.streamCount + 1 < s.tli.interval) :
    countStream s =
      { s with wge := { s.wge with streamCount := if s.tli.interval = 0 then 0 else s.wge.streamCount + 1 } } := by
  have hdue : s.offerDue = false := by
    rw [Bool.eq_false_iff, Ne, offerDue_iff]
    omega
  simp only [countStream, hdue, Bool.or_false, beq_iff_eq]

/-- An offer of the latest record. -/
theorem offerLatest_due {s : State} {r : WeightRecord} {g : Frame} (hr : s.rnc.runState = .warmup ∨ s.rnc.runState = .run)
    (hl : s.wge.latest = some r) (hd : s.offerDue = true) (hg : s.tli.sending = some g) :
    offerLatest s =
      { s with
        wge := { s.wge with streamCount := 0 }
        tli := { s.tli with weightSlot := some { record := r, foremost := s.foremost } } } := by
  rw [offerLatest, hl]
  dsimp only
  rw [if_pos (by rw [scanning_iff.2 hr, hd]; rfl), countStream_due hd]
  exact offerRecord_sending (s := { s with wge := { s.wge with streamCount := 0 } }) r hg

/-- No offer is due, or none is made. -/
theorem offerLatest_none {s : State}
    (h : s.rnc.runState = .halted ∨ s.rnc.runState = .halting ∨ s.wge.latest = none ∨ s.tli.interval = 0 ∨
      s.wge.streamCount + 1 < s.tli.interval) : offerLatest s = s := by
  rw [offerLatest]
  split
  · next r hl =>
    refine if_neg fun hboth => ?_
    obtain ⟨hscan, hdue⟩ := Bool.and_eq_true_iff.1 hboth
    obtain ⟨h0, hn⟩ := offerDue_iff.1 hdue
    rcases h with h | h | h | h | h
    · exact absurd hscan (by simp [State.scanning, h])
    · exact absurd hscan (by simp [State.scanning, h])
    · cases hl.symm.trans h
    · exact h0 h
    · omega
  · rfl

/-! ## The weight record -/

theorem indicate_one (d : Nat) (grams : Int) : indicate d grams 1 = d * roundDiv grams (1000 * d) := by
  rw [indicate, Nat.one_mul]

/-- The decks as the record shows them (R41, R46). -/
theorem deckViews_eq (c : CalSet) (decks : List (Option Deck)) :
    deckViews c decks = decks.mapIdx fun i deck => deck.map fun d =>
      { inBridge := (c.deck i).inBridge, state := d.state, value := d.value
        indication := d.value.map fun f => (c.division : Int) * roundDiv f (1000 * c.division)
        stable := d.stable, overFlag := d.overFlag, zeroLimit := d.zeroLimit } := by
  simp only [deckViews, Deck.view, indicate_one]

/-- A bridge of decks that all meet a condition. -/
theorem bridge_all {bridge : List DeckView} {f : DeckView → Bool} {p : DeckView → Prop} [DecidablePred p]
    (h : ∀ v, f v = true ↔ p v) : (!bridge.isEmpty && bridge.all f) = decide (bridge ≠ [] ∧ ∀ v ∈ bridge, p v) := by
  rw [Bool.eq_iff_iff, Bool.and_eq_true, List.all_eq_true, decide_eq_true_eq, Bool.not_eq_true', List.isEmpty_eq_false_iff]
  exact and_congr_right fun _ => forall₂_congr fun v _ => h v

/-- The TEST mark of the record (R45). -/
theorem test_eq (s : State) :
    (s.calibrating || s.bridgeInReference) =
      decide (s.clu.staged ≠ none ∨ ∃ i ∈ List.range 4, s.wge.deck i ≠ none ∧ (s.setInUse.deck i).inBridge = true ∧
        ∃ n ∈ maskNodes (s.setInUse.deck i).mask, (s.clc.node n).mode = .reference ∨ (s.clc.node n).delivered = false) := by
  rw [Bool.eq_iff_iff]
  simp only [State.calibrating, State.bridgeInReference, NodeRecord.inReference, Bool.or_eq_true, List.any_eq_true,
    Bool.and_eq_true, Option.isSome_iff_ne_none, beq_iff_eq, Bool.not_eq_true', decide_eq_true_eq, and_assoc]

theorem keepsValid_iff (v : DeckView) : v.keepsValid = true ↔ v.state = .valid ∨ v.state = .held ∧ v.value ≠ none := by
  simp [DeckView.keepsValid, Option.isSome_iff_ne_none]

/-- The record of a handoff (R41 to R46, R205). -/
theorem weightRecord_eq (s : State) (scan : BitVec 32) :
    let c := s.setInUse
    let views : List (Option DeckView) := s.wge.decks.mapIdx fun i deck => deck.map fun d =>
      { inBridge := (c.deck i).inBridge, state := d.state, value := d.value
        indication := d.value.map fun f => (c.division : Int) * roundDiv f (1000 * c.division)
        stable := d.stable, overFlag := d.overFlag, zeroLimit := d.zeroLimit }
    let bridge := views.filterMap fun v => v.filter fun v => v.inBridge
    let weight := (c.division : Int) * roundDiv (bridge.filterMap fun v => v.value).sum (1000 * c.division)
    weightRecord scan s =
      { scan := scan, calCount := s.stc.store.calibration.count, decks := views, weight := weight
        range := bridgeRange c bridge weight
        valid := decide (bridge ≠ [] ∧ ∀ v ∈ bridge, v.state = .valid ∨ v.state = .held ∧ v.value ≠ none)
        stable := decide (bridge ≠ [] ∧ ∀ v ∈ bridge, v.state = .valid ∧ v.stable = true)
        test := decide (s.clu.staged ≠ none ∨ ∃ i ∈ List.range 4, s.wge.deck i ≠ none ∧ (c.deck i).inBridge = true ∧
          ∃ n ∈ maskNodes (c.deck i).mask, (s.clc.node n).mode = .reference ∨ (s.clc.node n).delivered = false)
        warmup := decide (s.rnc.runState = .warmup) } := by
  intro c views bridge weight
  have hviews : deckViews c s.wge.decks = views := deckViews_eq c s.wge.decks
  have hbridge : bridgeDecks views = bridge := rfl
  have hweight : indicate c.division (bridgeGross bridge) 1 = weight := by rw [indicate_one, bridgeGross, sumInt_eq]
  have hvalid := bridge_all (bridge := bridge) keepsValid_iff
  have hstable := bridge_all (bridge := bridge) (f := fun v => v.state == .valid && v.stable)
    (p := fun v => v.state = .valid ∧ v.stable = true) (fun v => by simp)
  rw [weightRecord, hviews, hbridge, hweight, hvalid, hstable, test_eq, Bool.beq_eq_decide_eq]

/-! ## Publishing a record -/

/-- A record reaches no passage. -/
theorem recordTaken_idle {s : State} {r : WeightRecord} (h : s.psu.passage = none) : recordTaken r s = s := by
  rw [recordTaken, h]

/-- A pad result while the AXM does not check. -/
theorem padResult_unchecked {s : State} {pad : Option Int} (h : s.axm.checking = false) : padResult pad s = s := by
  cases pad with
  | none => rfl
  | some g => exact if_pos (by simp [h])

/-- A record published while nobody checks or waits for it: the stream alone moves. -/
theorem publishRecord_quiet {s : State} {r : WeightRecord} {pad : Option Int} (hc : s.axm.checking = false)
    (hp : s.psu.passage = none) (hshows : s.offerDue = true → s.tli.sending ≠ none) :
    publishRecord r pad s =
      (if s.offerDue then offerRecord r else id) (countStream { s with wge := { s.wge with latest := some r } }) := by
  have horder : recordOrderShows s = false := by
    rw [recordOrderShows, hc, Bool.false_or, Bool.eq_false_iff, Ne, Bool.and_eq_true, Option.isNone_iff_eq_none]
    exact fun h => hshows h.1 h.2
  have hpads : ∀ t : State, t.axm.checking = false →
      (if s.padDesignated then [padResult pad] else []).foldl (fun s act => act s) t = t := fun t ht => by
    split
    · exact padResult_unchecked ht
    · rfl
  rw [publishRecord, horder]
  simp only [inAnyOrder, recordDeliveries, Bool.false_eq_true, if_false, List.foldl_append, List.foldl_cons, List.foldl_nil]
  rw [recordTaken_idle (by exact hp), hpads _ (by exact hc)]
  split <;> rfl

/-- The pad deck's gross before its work (R26, log 12). -/
theorem padGross_some {s : State} {slots : List (Nat × Slot)} {d : Deck} {samples : List CellSample}
    (hd : s.wge.deck 0 = some d) (hs : deckSamples slots (maskNodes (s.setInUse.deck 0).mask) = some samples) :
    padGross slots s = some (deckSum s.setInUse samples -
      if d.initialZero = none ∧ s.psu.passage = none then (s.setInUse.deck 0).zeroCal else d.zero) := by
  rw [padGross, hd]
  dsimp only
  rw [hs, loadZero_eq]
  rfl

/-- Without a deck, or with an incomplete one, the pad has no gross. -/
theorem padGross_none {s : State} {slots : List (Nat × Slot)}
    (h : s.wge.deck 0 = none ∨ deckSamples slots (maskNodes (s.setInUse.deck 0).mask) = none) : padGross slots s = none := by
  rw [padGross]
  split
  · rfl
  · next d hd =>
    dsimp only
    rw [h.resolve_left (by simp [hd])]
    rfl

/-- Settles O35: SET_STREAM, the offer's row, the record and its publication, and the order of a handoff. -/
theorem streamSetAndOffered : Obligations.StreamSetAndOffered := by
  refine ⟨fun s now ref interval mirror h => ⟨fun hm => ?_, fun m hm => ?_⟩,
    fun s now h => ⟨fun r g hr hl h0 hn hg => ?_, fun hn => ?_⟩, weightRecord_eq,
    fun s r pad hc hp => ⟨fun hn => ?_, fun g h0 hn hg => ?_⟩,
    fun s scan slots => ⟨rfl, fun d samples => padGross_some, padGross_none⟩⟩
  · exact arrive_replied h h (d := .setStream interval mirror) rfl (setStream_bad hm)
  · exact arrive_replied h
      (t := { s with wge := { s.wge with streamCount := 0 }, tli := { s.tli with interval := interval.toNat, mirror := m } }) h
      (d := .setStream interval mirror) rfl (setStream_done (s := queued now ref _ s) hm)
  · exact handle_calm h (offerLatest_due (s := atTime now s) hr hl (offerDue_iff.2 ⟨h0, hn⟩) hg) h.1.2 rfl rfl
  · exact handle_nothing h (offerLatest_none (s := atTime now s) hn)
  · have hdue : ¬ s.offerDue = true := by
      rw [offerDue_iff]
      omega
    rw [publishRecord_quiet hc hp (fun hd => absurd hd hdue), if_neg hdue]
    exact countStream_early (s := { s with wge := { s.wge with latest := some r } }) hn
  · have hdue : s.offerDue = true := offerDue_iff.2 ⟨h0, hn⟩
    rw [publishRecord_quiet hc hp (fun _ => by simp [hg]), if_pos hdue,
      countStream_due (s := { s with wge := { s.wge with latest := some r } }) hdue]
    exact offerRecord_sending (s := { s with wge := { s.wge with latest := some r, streamCount := 0 } }) r hg

/-! ## Zero tracking -/

section
variable {c : CalSet} {initial f : Int} {d : Deck}

/-- The correction, by the magnitude it would leave. -/
theorem correction_eq :
    d.correction c initial f =
      if (d.zero + f - initial).natAbs ≤ c.maxLoad * 20 then f
      else (if 0 < d.zero + f - initial then ((c.maxLoad : Int) * 20) else -((c.maxLoad : Int) * 20)) - (d.zero - initial) := by
  simp only [Deck.correction, CalSet.zeroLimit]
  split_ifs <;> omega

/-- A cut correction is not F. -/
theorem correction_cut_ne (h : c.maxLoad * 20 < (d.zero + f - initial).natAbs) : d.correction c initial f ≠ f := by
  rw [correction_eq, if_neg (by omega)]
  split_ifs <;> omega

/-- A deck after a correction by x. -/
def Deck.movedBy (x : Int) (f : Int) (flag : Bool) (d : Deck) : Deck :=
  { d with
    zero := d.zero + x
    filter := d.filter.map fun v => v - x
    stability := d.stability.map fun v => v - x
    value := some (f - x)
    trackRun := 0
    zeroLimit := flag }

theorem tracked_eq (hf : d.value = some f) :
    d.tracked c initial f =
      d.movedBy (d.correction c initial f) f (d.zeroLimit || decide (d.correction c initial f ≠ f)) := by
  simp only [Deck.tracked, Deck.rebased, hf, Option.map_some, Deck.movedBy]

theorem trackable_iff (hf : d.value = some f) :
    d.trackable c = true ↔ d.state = .valid ∧ d.stable = true ∧ f.natAbs ≤ c.division * 500 := by
  simp [Deck.trackable, hf, and_assoc]

end

theorem tracking_iff {s : State} :
    s.tracking = true ↔
      s.psu.passage = none ∧ s.vfu.session = none ∧ s.clu.staged = none ∧ s.rnc.runState = .run := by
  simp [State.tracking, State.idle, State.calibrating, and_assoc]

/-- A pending ZERO_LIMIT on a part without a reason is the only one. -/
theorem reasonSet_zeroLimit {s : State} (h : s.reasonSet = []) :
    State.reasonSet { s with vfu := { s.vfu with zeroLimitPending := true } } = [.zeroLimit] := by
  simp only [State.reasonSet, allReasons, List.filter_eq_nil_iff, List.forall_mem_cons] at h
  obtain ⟨hnever, hchanged, hfailed, -, hfault, -⟩ := h
  simp only [Bool.not_eq_true] at hnever hchanged hfailed hfault
  simp only [State.reasonSet, allReasons, List.filter_cons, State.storedReasons] at hnever hchanged hfailed ⊢
  simp only [hnever, hchanged, hfailed, hfault, Bool.true_or, List.filter_nil, if_true, Bool.false_eq_true, if_false]

/-- A ZERO_LIMIT that is a reason already changes nothing. -/
theorem zeroLimitNotice_known {s : State} (h : .zeroLimit ∈ s.reasonSet) : zeroLimitNotice s = s := by
  simp only [zeroLimitNotice, List.contains_iff_mem, h, if_true]

/-! ### A change of the trade status -/

section
variable {s : State} {cause : TradeCause}

theorem statusChange_same : statusChange cause s.verified s = s := if_pos rfl

/-- The status is lost. -/
theorem statusChange_lost (h : s.verified = false) :
    statusChange cause true s = raise (.tradeStatusChanged false s.reasonSet s.vfu.zeroLimitPending cause) s := by
  simp only [statusChange, h, Bool.false_eq_true, if_false]

/-- The status is gained: a passage that waits for it asks again. -/
theorem statusChange_gained (h : s.verified = true) :
    statusChange cause false s =
      waitEnded .notVerified (raise (.tradeStatusChanged true s.reasonSet s.vfu.zeroLimitPending cause) s) := by
  simp only [statusChange, h, Bool.true_eq_false, if_false, if_true]

end

/-- A first reason takes the status to NOT_VERIFIED, and its storing is handed to the Store Controller. -/
theorem zeroLimitNotice_first {s : State} (h : s.reasonSet = []) :
    zeroLimitNotice s =
      offer (.event s.ylu.timebase (.tradeStatusChanged false [.zeroLimit] true .zeroLimit))
        { s with
          vfu := { s.vfu with zeroLimitPending := true }
          stc := { s.stc with queue := s.stc.queue ++ [.reason] } } := by
  have hv : s.verified = true := verified_iff.2 h
  have hfault : s.stc.fault = false := by
    by_contra hf
    exact absurd hv (Bool.eq_false_iff.1 (verified_of_fault (Bool.not_eq_false _ ▸ hf)))
  have hafter : State.reasonSet
      { s with
        vfu := { s.vfu with zeroLimitPending := true }
        stc := { s.stc with queue := s.stc.queue ++ [.reason] } } = [.zeroLimit] := reasonSet_zeroLimit h
  rw [zeroLimitNotice, if_neg (by rw [h]; decide),
    handUpdate_clear (s := { s with vfu := { s.vfu with zeroLimitPending := true } }) _ hfault, hv,
    statusChange_lost (by rw [State.verified, hafter]; rfl), hafter]
  rfl

/-! ### The row, and the zero actions of a handoff -/

section
variable {s : State} {i : Nat} {d : Deck} {f initial : Int}

/-- A correction on a deck with an initial zero and F. -/
theorem trackDeck_eq (hf : d.value = some f) (hi : d.initialZero = some initial) :
    trackDeck i d s =
      let d' := d.tracked s.setInUse initial f
      if d'.zeroLimit && !d.zeroLimit then zeroLimitNotice (raise (.zeroLimit i) (setDeck i d' s)) else setDeck i d' s := by
  simp only [trackDeck, hf, hi]

/-- The row: the correction is made where the run ends. -/
theorem trackRunEnds_due (hd : s.wge.deck i = some d) (ht : s.tracking = true) (hk : d.trackable s.setInUse = true)
    (hz : s.setInUse.zeroTrackWindow ≤ d.trackRun + 1) : trackRunEnds i s = trackDeck i d s := by
  simp only [trackRunEnds, hd, ht, hk, hz, decide_true, Bool.and_self, if_true]

/-- The correction stays within the limit, or the flag stands already. -/
theorem trackDeck_quiet (hf : d.value = some f) (hi : d.initialZero = some initial)
    (h : d.zeroLimit = true ∨ (d.zero + f - initial).natAbs ≤ s.setInUse.maxLoad * 20) :
    trackDeck i d s = setDeck i
      (d.movedBy (d.correction s.setInUse initial f) f
        (d.zeroLimit || decide (d.correction s.setInUse initial f ≠ f))) s := by
  rw [trackDeck_eq hf hi, tracked_eq hf]
  refine if_neg ?_
  rcases h with h | h
  · simp [h]
  · simp [Deck.movedBy, correction_eq, h]

/-- The correction is cut for the first time. -/
theorem trackDeck_cut (hf : d.value = some f) (hi : d.initialZero = some initial) (hz : d.zeroLimit = false)
    (h : s.setInUse.maxLoad * 20 < (d.zero + f - initial).natAbs) :
    trackDeck i d s = zeroLimitNotice (raise (.zeroLimit i)
      (setDeck i (d.movedBy (d.correction s.setInUse initial f) f true) s)) := by
  rw [trackDeck_eq hf hi, tracked_eq hf]
  simp only [Deck.movedBy, hz, correction_cut_ne h, ne_eq, not_false_eq_true, decide_true, Bool.or_true, Bool.not_false,
    Bool.and_self, if_true]

/-- The initial zero is taken. -/
theorem takesInitialZero_iff {c : CalSet} :
    d.takesInitialZero c = true ↔
      d.state = .noZero ∧ d.stable = true ∧ ∃ f, d.value = some f ∧ f.natAbs ≤ c.maxLoad * 100 := by
  cases hf : d.value <;> simp [Deck.takesInitialZero, hf, and_assoc]

theorem trackable_iff_exists {c : CalSet} :
    d.trackable c = true ↔
      d.state = .valid ∧ d.stable = true ∧ ∃ f, d.value = some f ∧ f.natAbs ≤ c.division * 500 := by
  cases hf : d.value <;> simp [Deck.trackable, hf, and_assoc]

end

/-- Settles O36: the row by what the correction meets, and the zero actions of a handoff. -/
theorem zeroTrackingCorrects : Obligations.ZeroTrackingCorrects := by
  refine ⟨?_, ?_⟩
  · intro s now i d f initial h hp hses hst hr hd hv hstable hf hinit hlow hz limit corrected
    have hlimit : limit = ((s.committed.maxLoad * 20 : Nat) : Int) := (Int.natCast_mul ..).symm
    have huse : s.setInUse = s.committed := by rw [State.setInUse, hst]; rfl
    have hrow : trackRunEnds i (atTime now s) = trackDeck i d (atTime now s) :=
      trackRunEnds_due (s := atTime now s) hd (tracking_iff.2 ⟨hp, hses, hst, hr⟩)
        ((trackable_iff hf).2 ⟨hv, hstable, by exact huse ▸ hlow⟩) (by exact huse ▸ hz)
    have hcut : ∀ x, limit < (d.zero + f - initial).natAbs →
        x = (if 0 < d.zero + f - initial then limit else -limit) - (d.zero - initial) →
        d.correction s.setInUse initial f = x := fun x hx he => by
      rw [huse, correction_eq, if_neg (by omega)]
      exact he.symm
    have hfresh : ∀ x, limit < (d.zero + f - initial).natAbs →
        x = (if 0 < d.zero + f - initial then limit else -limit) - (d.zero - initial) → d.zeroLimit = false →
        trackRunEnds i (atTime now s) =
          zeroLimitNotice (offer (.event now (.zeroLimit i)) (atTime now (corrected x true))) := fun x hx he hflag => by
      rw [hrow, trackDeck_cut hf hinit hflag (by exact huse ▸ (by omega)), ← hcut x hx he]
      rfl
    refine ⟨fun hx => ?_, fun x hx he hflag => ?_, fun x hx he hflag hnone => ?_, fun x hx he hflag hmem => ?_⟩
    · have hx' : (d.zero + f - initial).natAbs ≤ s.committed.maxLoad * 20 := by omega
      have hf' : d.correction s.setInUse initial f = f := by rw [huse, correction_eq, if_pos hx']
      refine handle_calm (now := now) h ?_ h.1.2 rfl rfl
      rw [hrow, trackDeck_quiet hf hinit (.inr (by exact huse ▸ hx')), show (atTime now s).setInUse = s.setInUse from rfl, hf']
      simp only [ne_eq, not_true_eq_false, decide_false, Bool.or_false]
      rfl
    · refine handle_calm (now := now) h ?_ h.1.2 rfl rfl
      rw [hrow, trackDeck_quiet hf hinit (.inl hflag), ← hcut x hx he, hflag]
      rfl
    · refine handle_calm (now := now) h ((hfresh x hx he hflag).trans (zeroLimitNotice_first hnone)) h.1.2 ?_ ?_
      · exact (offer_keeps _ _).1.trans (offer_keeps _ _).1
      · exact (offer_keeps _ _).2.1.trans (offer_keeps _ _).2.1
    · exact handle_calm (now := now) h ((hfresh x hx he hflag).trans (zeroLimitNotice_known hmem)) h.1.2
        (offer_keeps _ _).1 (offer_keeps _ _).2.1
  · intro s i d c put initial tracks
    refine ⟨fun f hi hf hlow => ?_, fun f ht hf hlow hz => ?_, fun hi ht => ?_⟩
    · obtain ⟨hp, hr, hst, hstable⟩ := hi
      have htakes : (s.idle && s.rnc.runState == .run && d.takesInitialZero c) = true := by
        rw [Bool.and_eq_true, takesInitialZero_iff]
        exact ⟨by simp [State.idle, hp, hr], hst, hstable, f, hf, hlow⟩
      refine (if_pos htakes).trans ?_
      simp only [Deck.withInitialZero, Deck.rebased, hf, Option.getD_some, Option.map_some, sub_self]
      rfl
    · obtain ⟨hp, hr, hses, hcal, hst, hstable⟩ := ht
      refine (if_neg ?_).trans ((if_pos ?_).trans (if_neg (by exact Nat.not_le.2 hz)))
      · simp [Deck.takesInitialZero, hst]
      · rw [Bool.and_eq_true, tracking_iff, trackable_iff hf]
        exact ⟨⟨hp, hses, hcal, hr⟩, hst, hstable, hlow⟩
    · refine (if_neg ?_).trans (if_neg ?_)
      · rw [Bool.and_eq_true, Bool.and_eq_true, idle_iff, beq_iff_eq, takesInitialZero_iff]
        rintro ⟨⟨hp, hr⟩, hst, hstable, f, hf, hlow⟩
        exact absurd (hi ⟨hp, hr, hst, hstable⟩ f hf) (Nat.not_lt.2 hlow)
      · rw [Bool.and_eq_true, tracking_iff, trackable_iff_exists]
        rintro ⟨⟨hp, hses, hcal, hr⟩, hst, hstable, f, hf, hlow⟩
        exact absurd (ht ⟨hp, hr, hses, hcal, hst, hstable⟩ f hf) (Nat.not_lt.2 hlow)

end Sys2Proof.Machine
end

section
/-! SUPPORT. The input filters (R52 to R55), what an accepted change does to strips and passages (R56 to R71, R105 to R114), and the
timers of the passage and the pairing (R70, R116). -/

namespace Sys2Proof.Machine

/-! ## Input filters -/

section
variable {f : InputFilter} {level : Bool} {now : Stamp}

/-- A transition to the level the input has is none. -/
theorem transition_same (h : f.raw = level) : f.transition level now = f := if_pos h

/-- During settling a transition restarts the interval. -/
theorem transition_settling (h : f.raw ≠ level) (ha : f.accepted = none) :
    f.transition level now = { f with raw := level, settling := some ⟨level, now⟩ } := by
  simp only [InputFilter.transition, h, if_false, ha]

/-- A transition away from the accepted level opens a candidate. -/
theorem transition_opens (h : f.raw ≠ level) (ha : f.accepted = some (!level)) :
    f.transition level now = { f with raw := level, candidate := some ⟨level, now⟩ } := by
  have hne : level ≠ !level := by cases level <;> decide
  simp only [InputFilter.transition, h, if_false, ha, hne]

/-- A transition back to the accepted level abandons the candidate as chatter. -/
theorem transition_abandons {c : LevelMark} (h : f.raw ≠ level) (ha : f.accepted = some level) (hc : f.candidate = some c) :
    f.transition level now =
      { f with raw := level, candidate := none, chatter := if f.chatter < 65535 then f.chatter + 1 else f.chatter } := by
  simp only [InputFilter.transition, h, if_false, ha, if_true, hc, saturatingSucc, Config.max16]

end

section
variable {s : State} {i : YardInput}

/-- A settling interval that has passed gives the first level. -/
theorem settleInput_due {m : LevelMark} (hm : (s.ylu.filter i).settling = some m)
    (h : s.rnc.site.filterTime i ≤ (s.ylu.timebase - m.stamp).toNat) :
    settleInput i s = { s with ylu := s.ylu.setFilter ((s.ylu.filter i).settled m.level) i } := by
  simp only [settleInput, hm]
  exact if_pos h

/-- Without a settling interval nothing ends. -/
theorem settleInput_settled (hm : (s.ylu.filter i).settling = none) : settleInput i s = s := by
  simp only [settleInput, hm]

end

/-- A filter does not see the timebase. -/
theorem filter_atTime (now : Stamp) (s : State) (i : YardInput) : (atTime now s).ylu.filter i = s.ylu.filter i := by
  cases i <;> rfl

/-- A filter replaced at a reading of the timebase. -/
theorem setFilter_atTime (now : Stamp) (s : State) (g : InputFilter) (i : YardInput) :
    { atTime now s with ylu := (atTime now s).ylu.setFilter g i } = atTime now { s with ylu := s.ylu.setFilter g i } := by
  cases i <;> rfl

/-- Settles O37: the four transitions, and the two ends of a settling interval. -/
theorem inputsAreFiltered : Obligations.InputsAreFiltered := by
  intro s now i level h f withFilter
  have hraw : ∀ g, f.transition level now = g → exec (.rawTransition now i level) s = .next (taken now (withFilter g)) :=
    fun g hg => by
      refine handle_calm (now := now) h ?_ h.1.2 rfl rfl
      rw [← hg]
      exact (congrArg (fun f' : InputFilter =>
        { atTime now s with ylu := (atTime now s).ylu.setFilter (f'.transition level now) i }) (filter_atTime now s i)).trans
        (setFilter_atTime now s _ i)
  refine ⟨fun hl => ?_, fun hl ha => hraw _ (transition_settling hl ha), fun hl ha => hraw _ (transition_opens hl ha),
    fun c hl ha hc => hraw _ (transition_abandons hl ha hc), fun m hm hdue => ?_, fun hm => ?_⟩
  · refine (hraw f (transition_same hl)).trans ?_
    have hf : withFilter f = s := by cases i <;> rfl
    rw [hf]
  · refine handle_calm (now := now) h ?_ h.1.2 rfl rfl
    rw [settleInput_due (s := atTime now s) ((filter_atTime now s i).symm ▸ hm) hdue, filter_atTime, setFilter_atTime]
    rfl
  · exact handle_nothing (now := now) h (settleInput_settled (s := atTime now s) ((filter_atTime now s i).symm ▸ hm))

/-! ## A command that leaves the yard lines and the directive queue alone -/

/-- Two states with the same yard lines and directive queue. -/
def SameQueue (s t : State) : Prop :=
  t.ylu = s.ylu ∧ t.stc.checking = s.stc.checking ∧ t.tli.directives = s.tli.directives ∧ t.tli.executing = s.tli.executing

theorem SameQueue.refl (s : State) : SameQueue s s := ⟨rfl, rfl, rfl, rfl⟩

theorem sameQueue_silent (s : State) : Silent (SameQueue s) where
  frame f t h :=
    ⟨h.1, h.2.1, (offer_keeps t.tli f).1.trans h.2.2.1, (offer_keeps t.tli f).2.1.trans h.2.2.2⟩
  psu _ _ h := h
  axm _ _ h := h
  vfu _ _ h := h
  hand _ _ h := handUpdate_survives (fun _ _ h => h) h
  mark _ _ h := h
  free _ _ h := h

theorem sameQueue_setChanged {s t : State} {old : CalSet} {reload : Bool} (h : SameQueue s t) :
    SameQueue s (setChanged old reload t) := by
  rw [setChanged_eq]
  exact h

theorem sameQueue_calSwitchOpened {s t : State} (h : SameQueue s t) : SameQueue s (calSwitchOpened t) := by
  refine silent_raise (sameQueue_silent s) ?_
  rw [endCalibration_eq]
  exact h

theorem sameQueue_switchOpened {s t : State} (h : SameQueue s t) : SameQueue s (switchOpened t) := by
  simp only [switchOpened]
  split
  · exact h
  · split
    · exact h
    · exact sameQueue_calSwitchOpened h

/-- The consumer of an accepted change leaves the yard lines and the directive queue alone. -/
theorem sameQueue_handOn {s t : State} {i : YardInput} {green : Bool} {c : LevelMark} (h : SameQueue s t) :
    SameQueue s (handOn i green c t) := by
  have hP := sameQueue_silent s
  cases i with
  | entryLoop => exact silent_entryChange hP h
  | exitLoop => exact silent_exitChange hP h
  | stripA =>
    simp only [handOn]
    split
    · exact silent_stripAPress hP h
    · exact h
  | stripB =>
    simp only [handOn]
    split
    · exact silent_stripBPress hP h
    · exact h
  | calSwitch =>
    simp only [handOn]
    split
    · exact h
    · exact sameQueue_switchOpened h

theorem sameQueue_reportChange {s t : State} {i : YardInput} {c : LevelMark} (h : SameQueue s t) :
    SameQueue s (reportChange i c t) := by
  simp only [reportChange]
  split
  · exact silent_raise (sameQueue_silent s) h
  · exact h

/-- A command in a calm state whose effect leaves the directive queue alone. -/
theorem handle_quiet {s u : State} {now : Stamp} {effect : State → State} (h : s.calm) (hu : effect (atTime now s) = u)
    (hc : u.stc.checking = false) (hd : u.tli.directives = s.tli.directives) (hx : u.tli.executing = s.tli.executing) :
    handle now effect s = .next (refreshLights u) := by
  obtain ⟨⟨hp, -⟩, hq⟩ := h
  simp only [handle, hp, if_true, hu]
  rcases hq with hq | hq
  · rw [finish_idle hc (hd.trans hq)]
  · rw [finish_held hc (hx.trans hq)]

/-! ## An accepted change -/

/-- The state with a change of an input accepted and not yet handed on. -/
def State.accepting (i : YardInput) (c : LevelMark) (s : State) : State :=
  { s with ylu := s.ylu.setFilter { s.ylu.filter i with accepted := some c.level, last := some c, candidate := none } i }

theorem filter_setFilter (y : Ylu) (g : InputFilter) (i : YardInput) : (y.setFilter g i).filter i = g := by cases i <;> rfl

section
variable {s t : State} {now : Stamp} {i : YardInput} {c : LevelMark}

/-- A ripe candidate is accepted, handed on and reported. -/
theorem acceptRipe_ripe (hc : (s.ylu.filter i).candidate = some c)
    (hr : s.rnc.site.filterTime i ≤ (now - c.stamp).toNat) :
    acceptRipe i (atTime now s) = reportChange i c (handOn i s.ylu.entryGreen c (atTime now (s.accepting i c))) := by
  have hripe : State.ripe (atTime now s) i = some c := by
    rw [State.ripe, filter_atTime, hc]
    exact if_pos hr
  simp only [acceptRipe, hripe, acceptChange]
  rw [filter_atTime, setFilter_atTime]
  rfl

/-- An unripe candidate is no occurrence. -/
theorem acceptRipe_unripe (hc : (s.ylu.filter i).candidate = some c)
    (hr : ¬ s.rnc.site.filterTime i ≤ (now - c.stamp).toNat) : acceptRipe i (atTime now s) = atTime now s := by
  have hripe : State.ripe (atTime now s) i = none := by
    rw [State.ripe, filter_atTime, hc]
    exact if_neg hr
  simp only [acceptRipe, hripe]

theorem sameQueue_accepting : SameQueue (atTime now (s.accepting i c)) (reportChange i c (handOn i s.ylu.entryGreen c
    (atTime now (s.accepting i c)))) := sameQueue_reportChange (sameQueue_handOn (.refl _))

/-- The row of a ripe candidate. -/
theorem filterAccept_ripe (h : s.calm) (hc : (s.ylu.filter i).candidate = some c)
    (hr : s.rnc.site.filterTime i ≤ (now - c.stamp).toNat) :
    exec (.filterAccept now i) s = .next (refreshLights (reportChange i c (handOn i s.ylu.entryGreen c
      (atTime now (s.accepting i c))))) := by
  obtain ⟨-, hcheck, hd, hx⟩ := sameQueue_accepting (s := s) (now := now) (i := i) (c := c)
  exact handle_quiet h (acceptRipe_ripe hc hr) (hcheck.trans h.1.2) hd hx

/-- The row of a ripe candidate of an input whose changes are reported. -/
theorem filterAccept_line (h : s.calm) (hc : (s.ylu.filter i).candidate = some c)
    (hr : s.rnc.site.filterTime i ≤ (now - c.stamp).toNat) (hi : lineReported i = true)
    (ht : handOn i s.ylu.entryGreen c (atTime now (s.accepting i c)) = atTime now t) :
    exec (.filterAccept now i) s = .next (taken now (offer (.event now (.lineChange i c.level c.stamp)) t)) := by
  rw [filterAccept_ripe h hc hr, ht, reportChange, if_pos hi]
  rfl

/-- The row of a ripe candidate of a strip. -/
theorem filterAccept_strip (h : s.calm) (hc : (s.ylu.filter i).candidate = some c)
    (hr : s.rnc.site.filterTime i ≤ (now - c.stamp).toNat) (hi : lineReported i = false)
    (ht : handOn i s.ylu.entryGreen c (atTime now (s.accepting i c)) = atTime now t) :
    exec (.filterAccept now i) s = .next (taken now t) := by
  rw [filterAccept_ripe h hc hr, ht, reportChange, if_neg (by rw [hi]; decide)]
  rfl

end

/-! ## The calibration switch -/

/-- A commit update is in flight. -/
theorem commitInFlight_iff {s : State} : s.commitInFlight = true ↔ ∃ u ∈ s.stc.queue, u.producer = .clu := by
  rw [State.commitInFlight, List.any_eq_true]
  refine exists_congr fun u => and_congr_right fun _ => ?_
  cases u <;> simp [Update.producer]

section
variable {s : State}

/-- Out of calibration mode the opening tells nothing. -/
theorem switchOpened_off (h : s.clu.staged = none) : switchOpened s = s :=
  if_pos (by rw [calibrating_eq_false_iff.2 h]; rfl)

/-- While a commit is in flight the opening is recorded. -/
theorem switchOpened_recorded {staged : CalSet} (h : s.clu.staged = some staged) (hq : ∃ u ∈ s.stc.queue, u.producer = .clu) :
    switchOpened s = { s with clu := { s.clu with openingRecorded := true } } :=
  (if_neg (by simp [State.calibrating, h])).trans (if_pos (commitInFlight_iff.2 hq))

/-- The end of calibration mode by the switch, with its event (R165, R167). -/
theorem calSwitchOpened_staged {staged : CalSet} (h : s.clu.staged = some staged) :
    calSwitchOpened s =
      offer (.event s.ylu.timebase (.calSwitchOpened (changedParams staged s.committed).length))
        (setChanged staged true (withStaged none s)) := by
  rw [calSwitchOpened, endCalibration_some h, State.changedCount, h, raise, setChanged_eq]
  rfl

/-- The opening ends calibration mode. -/
theorem switchOpened_ends {staged : CalSet} (h : s.clu.staged = some staged) (hq : ∀ u ∈ s.stc.queue, u.producer ≠ .clu) :
    switchOpened s =
      offer (.event s.ylu.timebase (.calSwitchOpened (changedParams staged s.committed).length))
        (setChanged staged true (withStaged none s)) := by
  refine (if_neg (by simp [State.calibrating, h])).trans ((if_neg ?_).trans (calSwitchOpened_staged h))
  rw [commitInFlight_iff]
  rintro ⟨u, hu, hp⟩
  exact hq u hu hp

end

/-! ## Strip presses -/

section
variable {s : State} {t t0 : Stamp}

/-- A forward crossing joins a queue with room. -/
theorem joinForward_room {v : Option Nat} (h : s.axm.queue.length < 4) :
    joinForward t v s =
      { s with axm := { s.axm with
          queue := s.axm.queue ++ [{ crossing := some t, speed := v, onPad := false, padOnly := false }]
          padIgnore := false } } := by
  rw [joinForward, makeAxleRoom, if_pos (by exact h)]

/-- The first press opens a pairing. -/
theorem stripAPress_opens (h : s.axm.pairing = none) : stripAPress t s = setPairing (some ⟨.forward, t⟩) s := by
  simp only [stripAPress, h]

theorem stripBPress_opens (h : s.axm.pairing = none) : stripBPress t s = setPairing (some ⟨.reverse, t⟩) s := by
  simp only [stripBPress, h]

/-- STRIP_A again: the crossing opened by the first press has no speed. -/
theorem stripAPress_repeated (h : s.axm.pairing = some ⟨.forward, t0⟩) (hq : s.axm.queue.length < 4) :
    stripAPress t s =
      offer (.event s.ylu.timebase (.stripFault s.passageNumber .repeatedA t0))
        { s with axm := { s.axm with
            pairing := some ⟨.forward, t⟩
            queue := s.axm.queue ++ [{ crossing := some t0, speed := none, onPad := false, padOnly := false }]
            padIgnore := false } } := by
  simp only [stripAPress, h, joinForward_room hq]
  rfl

/-- STRIP_B again opens its pairing anew. -/
theorem stripBPress_repeated (h : s.axm.pairing = some ⟨.reverse, t0⟩) :
    stripBPress t s =
      offer (.event s.ylu.timebase (.stripFault s.passageNumber .repeatedB t0))
        { s with axm := { s.axm with pairing := some ⟨.reverse, t⟩ } } := by
  simp only [stripBPress, h]
  rfl

/-- STRIP_A closes a pairing of STRIP_B in time: a reversal. -/
theorem stripAPress_reverses (h : s.axm.pairing = some ⟨.reverse, t0⟩) (hne : t ≠ t0)
    (hw : (t - t0).toNat ≤ s.rnc.site.pairingWindow * 1000) : stripAPress t s = reverseCrossing (setPairing none s) := by
  simp only [stripAPress, h]
  exact (if_pos hw).trans (if_neg hne)

/-- STRIP_B closes a pairing of STRIP_A in time: a crossing with its speed. -/
theorem stripBPress_crosses (h : s.axm.pairing = some ⟨.forward, t0⟩) (hne : t ≠ t0)
    (hw : (t - t0).toNat ≤ s.rnc.site.pairingWindow * 1000) (hq : s.axm.queue.length < 4) :
    stripBPress t s =
      { s with axm := { s.axm with
          pairing := none
          queue := s.axm.queue ++ [{
            crossing := some t0, speed := some (s.rnc.site.stripSpacing * 1000000 / (t - t0).toNat), onPad := false
            padOnly := false }]
          padIgnore := false } } := by
  simp only [stripBPress, h]
  exact (if_pos hw).trans ((if_neg hne).trans (joinForward_room (s := setPairing none s) hq))

/-- Both strips at one moment: a crossing without a speed. -/
theorem stripBPress_simultaneous (h : s.axm.pairing = some ⟨.forward, t⟩) (hq : s.axm.queue.length < 4) :
    stripBPress t s =
      offer (.event s.ylu.timebase (.stripFault s.passageNumber .simultaneous t))
        { s with axm := { s.axm with
            pairing := none
            queue := s.axm.queue ++ [{ crossing := some t, speed := none, onPad := false, padOnly := false }]
            padIgnore := false } } := by
  have hw : elapsed t t ≤ s.windowMicros := by simp [elapsed]
  simp only [stripBPress, h]
  refine (if_pos hw).trans ((if_pos trivial).trans ?_)
  rw [joinForward_room (s := setPairing none s) hq]
  rfl

/-- The Axle Monitor after a reversal (R79). -/
def reversedAxm (list : List AxleRecord) (a : Axm) : Axm :=
  { a with
    list := list, queue := [], padIgnore := true, afterReverse := true
    dwell := a.dwell.map fun d => { d with detached := true } }

/-- A reversal with no axle in the list. -/
theorem reverseCrossing_none (h : s.axm.list = []) : reverseCrossing s = { s with axm := reversedAxm [] s.axm } := by
  simp only [reverseCrossing, h, List.getLast?_nil, List.dropLast_nil]
  rfl

/-- A reversal removes the latest axle. -/
theorem reverseCrossing_removes {l : List AxleRecord} {r : AxleRecord} (h : s.axm.list = l ++ [r]) :
    reverseCrossing s = offer (.axle s.passageNumber .removed r) { s with axm := reversedAxm l s.axm } := by
  simp only [reverseCrossing, h, List.getLast?_concat, List.dropLast_concat]
  rfl

end

/-! ## Ends of a passage -/

/-- Leaving the waits out is keeping the other holds. -/
theorem dropWaits_eq (holds : List HoldReason) :
    dropWaits holds = holds.filter fun r => decide (r ∈ [.unlisted, .blocked, .probe, .overload]) :=
  List.filter_congr fun r _ => by cases r <;> rfl

/-- The record of a passage in CLEARING. -/
def Passage.clearing (p : Passage) : Passage :=
  { p with state := .clearing, holds := p.holds.filter fun r => decide (r ∈ [.unlisted, .blocked, .probe, .overload]) }

/-- The state without its passage. -/
def State.vacated (s : State) : State :=
  { s with psu := { s.psu with passage := none, captureTimer := none }, axm := .cleared }

/-- Both loops are accepted clear and the latest record shows no load, so that CLEARING is over (R114). -/
def State.clearedOut (s : State) : Prop :=
  s.ylu.entryLoop.accepted = some false ∧ s.ylu.exitLoop.accepted = some false ∧
    ¬ 20 * (s.setInUse.division : Int) ≤ s.latestWeight

section
variable {s : State} {p : Passage} {cause : PassageCause} {stamp : Option Stamp}

theorem endPassage_eq : endPassage cause stamp p s = report (some p.state) none cause stamp p s.vacated := rfl

/-- The end of CLEARING, judged. -/
theorem judgeClearing_over (hp : s.psu.passage = some p) (hc : p.state = .clearing) (h : s.clearedOut) :
    judgeClearing stamp s = report (some .clearing) none .cleared stamp p s.vacated := by
  obtain ⟨hentry, hexit, hlight⟩ := h
  simp only [judgeClearing, hp]
  refine (if_pos ?_).trans ?_
  · simp [hc, State.entryClear, hentry, State.exitClear, hexit, State.heavy, hlight]
  · rw [endPassage_eq, hc]

theorem judgeClearing_goes_on (hp : s.psu.passage = some p) (h : ¬ s.clearedOut) : judgeClearing stamp s = s := by
  simp only [judgeClearing, hp]
  refine if_neg fun hall => h ?_
  simp only [Bool.and_eq_true, State.entryClear, State.exitClear, State.heavy, beq_iff_eq, Bool.not_eq_true',
    decide_eq_false_iff_not] at hall
  obtain ⟨⟨⟨-, hentry⟩, hexit⟩, hlight⟩ := hall
  exact ⟨hentry, hexit, hlight⟩

/-- Checking ends with ARRIVING and with ON_BRIDGE (R81). -/
theorem endCheckingFrom_eq (x : PassageState) :
    endCheckingFrom x s = { s with axm := if x = .arriving ∨ x = .onBridge then (endChecking s).axm else s.axm } := by
  by_cases h : x = .arriving ∨ x = .onBridge
  · rw [if_pos h]
    exact if_pos (by simpa using h)
  · rw [if_neg h]
    exact if_neg (by simpa using h)

/-- CLEARING begun (R107, R110, R111, R125), before its end is judged. -/
def State.clearingFrom (p : Passage) (s : State) : State :=
  { s with
    psu := { s.psu with passage := some p.clearing, captureTimer := none }
    axm := if p.state = .arriving ∨ p.state = .onBridge then (endChecking s).axm else s.axm }

theorem toClearing_eq : toClearing cause stamp p s =
    judgeClearing stamp (report (some p.state) (some .clearing) cause stamp p.clearing (s.clearingFrom p)) := by
  have hrecord : { p with state := .clearing, holds := dropWaits p.holds } = p.clearing := by rw [dropWaits_eq]; rfl
  simp only [toClearing, hrecord]
  rw [endCheckingFrom_eq]
  rfl

/-- CLEARING begins and goes on. -/
theorem toClearing_stays (h : ¬ s.clearedOut) : toClearing cause stamp p s =
    report (some p.state) (some .clearing) cause stamp p.clearing (s.clearingFrom p) :=
  toClearing_eq.trans (judgeClearing_goes_on (p := p.clearing) rfl h)

/-- CLEARING begins and is over at once. -/
theorem toClearing_over (h : s.clearedOut) : toClearing cause stamp p s =
    report (some .clearing) none .cleared stamp p.clearing
      (report (some p.state) (some .clearing) cause stamp p.clearing s.vacated) :=
  toClearing_eq.trans (judgeClearing_over (p := p.clearing) rfl rfl h)

end

/-! ## Loop changes -/

/-- A new passage (R105). -/
def Psu.opening (intruder : Bool) (u : Psu) : Passage :=
  { number := u.counter + 1#16, state := .arriving, intruder := intruder, runThrough := false, identity := none
    capture := none, axles := none, holds := [], ticket := none }

section
variable {s : State} {p : Passage} {t : Stamp}

theorem openPassage_eq (intruder : Bool) (stamp : Option Stamp) :
    openPassage intruder stamp s =
      report none (some .arriving) .entered stamp (s.psu.opening intruder)
        { s with
          psu := { s.psu with passage := some (s.psu.opening intruder), counter := s.psu.counter + 1#16 }
          axm := if s.setInUse.padDeck = true then { Axm.cleared with checking := true } else s.axm } := by
  simp only [openPassage]
  by_cases hpad : s.setInUse.padDeck = true
  · rw [if_pos hpad]
    exact if_pos hpad
  · rw [if_neg hpad]
    exact if_neg hpad

/-- A passage opens. -/
theorem entryChange_opens {green : Bool} (hp : s.psu.passage = none) (hr : s.rnc.runState = .warmup ∨ s.rnc.runState = .run) :
    entryChange true green t s = openPassage (!green) (some t) s := by
  simp only [entryChange, hp]
  exact if_pos (by rw [scanning_iff.2 hr]; rfl)

/-- The entry loop clears behind an arriving vehicle. -/
theorem entryChange_moves {green : Bool} (hp : s.psu.passage = some p) (ha : p.state = .arriving)
    (hx : s.ylu.exitLoop.accepted = some false) : entryChange false green t s = moveOnBridge (some t) p s := by
  simp only [entryChange, hp, ha]
  exact if_pos (by rw [State.exitClear, hx]; rfl)

/-- Onto the bridge. -/
theorem moveOnBridge_on {stamp : Option Stamp} (h : s.axm.list ≠ [] ∨ 20 * (s.setInUse.division : Int) ≤ s.latestWeight) :
    moveOnBridge stamp p s =
      report (some .arriving) (some .onBridge) .on stamp { p with state := .onBridge }
        { s with psu := { s.psu with
            passage := some { p with state := .onBridge }
            captureTimer := if p.intruder = true then s.psu.captureTimer else some s.ylu.timebase } } := by
  refine (if_pos (by simpa [State.heavy] using h)).trans ?_
  by_cases hi : p.intruder = true
  · rw [if_pos hi, if_pos hi]
    rfl
  · rw [if_neg hi, if_neg hi]
    rfl

/-- Backed out. -/
theorem moveOnBridge_back {stamp : Option Stamp} (hl : s.axm.list = [])
    (h : ¬ 20 * (s.setInUse.division : Int) ≤ s.latestWeight) :
    moveOnBridge stamp p s = toClearing .backedOut stamp p s :=
  if_neg (by simpa [State.heavy, hl] using h)

/-- LEAVING, with the exit loop not accepted clear. -/
theorem toLeaving_stays {cause : PassageCause} {stamp : Option Stamp} (hx : s.ylu.exitLoop.accepted ≠ some false) :
    toLeaving cause stamp p s =
      report (some p.state) (some .leaving) cause stamp { p with state := .leaving }
        { s with
          psu := { s.psu with passage := some { p with state := .leaving }, captureTimer := none }
          axm := if p.state = .arriving ∨ p.state = .onBridge then (endChecking s).axm else s.axm } := by
  simp only [toLeaving, endCheckingFrom_eq]
  refine (if_neg ?_).trans rfl
  rw [State.exitClear, beq_iff_eq]
  exact hx

/-- A run-through before a ticket (R108). -/
theorem exitOccupied_runThrough (ha : p.state = .arriving ∨ p.state = .onBridge ∨ p.state = .captured) (hi : p.intruder = false) :
    exitOccupied t p s =
      toLeaving .runThrough (some t) { p with runThrough := true, holds := dropWaits p.holds } (raiseRunThrough t p s) := by
  rcases ha with ha | ha | ha <;> simp only [exitOccupied, ha, hi, Bool.false_eq_true, if_false]

/-- LEAVING is over, with no vehicle on the entry loop or no run (R113). -/
theorem passageLeft_idle {stamp : Option Stamp} (hl : p.state = .leaving)
    (h : s.ylu.entryLoop.accepted ≠ some true ∨ s.rnc.runState ≠ .warmup ∧ s.rnc.runState ≠ .run) :
    passageLeft stamp p s = report (some .leaving) none .left stamp p s.vacated := by
  simp only [passageLeft, endPassage_eq, hl]
  refine if_neg ?_
  rw [Bool.and_eq_true, beq_iff_eq, scanning_iff]
  rintro ⟨hr, he⟩
  rcases h with h | ⟨hw, hrun⟩
  · exact h he
  · exact hr.elim hw hrun

/-- LEAVING is over, and the vehicle on the entry loop is an intruder (R106). -/
theorem passageLeft_follows (hl : p.state = .leaving) (he : s.ylu.entryLoop.accepted = some true)
    (hr : s.rnc.runState = .warmup ∨ s.rnc.runState = .run) :
    passageLeft (some t) p s =
      openPassage true (s.ylu.entryLoop.last.map fun m => m.stamp) (report (some .leaving) none .left (some t) p s.vacated) := by
  simp only [passageLeft, endPassage_eq, hl]
  refine if_pos ?_
  rw [Bool.and_eq_true, beq_iff_eq, scanning_iff]
  exact ⟨hr, he⟩

end

section
variable {s : State} {p : Passage} {t : Stamp}

/-- The entry loop changes in CLEARING. -/
theorem entryChange_clearing {occupied green : Bool} (hp : s.psu.passage = some p) (h : p.state = .clearing) :
    entryChange occupied green t s = judgeClearing (some t) s := by
  simp only [entryChange, hp, h]

/-- The exit loop clears behind a leaving vehicle. -/
theorem exitCleared_leaving (h : p.state = .leaving) : exitCleared t p s = passageLeft (some t) p s := by
  simp only [exitCleared, h]

/-- The exit loop clears in CLEARING. -/
theorem exitCleared_clearing (h : p.state = .clearing) : exitCleared t p s = judgeClearing (some t) s := by
  simp only [exitCleared, h]

/-- The exit loop clears behind an intruder (R111). -/
theorem exitCleared_intruder (h : p.state = .arriving ∨ p.state = .onBridge) (hi : p.intruder = true) :
    exitCleared t p s = toClearing .intruderLeft (some t) p s := by
  rcases h with h | h <;> simp only [exitCleared, h, hi, if_true]

/-- A run-through while the ticket is issued (R109). -/
theorem exitOccupied_issuing (h : p.state = .issuing) :
    exitOccupied t p s = raiseRunThrough t p (markRunThrough p.number (setPassage { p with runThrough := true } s)) := by
  simp only [exitOccupied, h]

/-- The exit with a ticket and no hold (R112). -/
theorem exitOccupied_done (h : p.state = .done) (hn : p.holds = []) : exitOccupied t p s = toLeaving .exit (some t) p s := by
  have hempty : p.holds.isEmpty = true := by rw [hn]; rfl
  simp only [exitOccupied, h, hempty, if_true]

/-- The exit with a ticket and a hold (R112). -/
theorem exitOccupied_held (h : p.state = .done) (hn : p.holds ≠ []) :
    exitOccupied t p s = toLeaving .exit (some t) { p with runThrough := true } (raiseRunThrough t p s) := by
  have hne : p.holds.isEmpty = false := by simpa using hn
  simp only [exitOccupied, h, hne, Bool.false_eq_true, if_false]

end

/-- A change of the set in use neither reads nor writes the timebase. -/
theorem setChanged_atTime (old : CalSet) (reload : Bool) (now : Stamp) (s : State) :
    setChanged old reload (atTime now s) = atTime now (setChanged old reload s) := by
  refine (setChanged_withLines old reload { s.ylu with timebase := now } s.tli s).trans ?_
  rw [setChanged_eq]
  rfl

section
variable {s : State} {now : Stamp} {i : YardInput} {c : LevelMark}

/-- What a strip press does while axles are checked, clause by clause (R65 to R71, R79). -/
theorem stripPress_rows (h : s.calm) (hc : (s.ylu.filter i).candidate = some c)
    (hr : s.rnc.site.filterTime i ≤ (now - c.stamp).toNat) (hl : c.level = true) (hk : s.axm.checking = true) :
    (∀ t, i = .stripA → stripAPress c.stamp (atTime now (s.accepting .stripA c)) = atTime now t →
      exec (.filterAccept now i) s = .next (taken now t)) ∧
    (∀ t, i = .stripB → stripBPress c.stamp (atTime now (s.accepting .stripB c)) = atTime now t →
      exec (.filterAccept now i) s = .next (taken now t)) := by
  have hpress : (c.level && s.axm.checking) = true := by rw [hl, hk]; rfl
  constructor
  · rintro t rfl ht
    exact filterAccept_strip h hc hr rfl ((if_pos hpress).trans ht)
  · rintro t rfl ht
    exact filterAccept_strip h hc hr rfl ((if_pos hpress).trans ht)

/-- The row of an accepted change of the exit loop, with a passage. -/
theorem exitLoop_row {p : Passage} {t : State} (h : s.calm) (hc : s.ylu.exitLoop.candidate = some c)
    (hr : s.rnc.site.filterTime .exitLoop ≤ (now - c.stamp).toNat) (hp : s.psu.passage = some p)
    (ht : (if c.level then exitOccupied c.stamp p (atTime now (s.accepting .exitLoop c))
      else exitCleared c.stamp p (atTime now (s.accepting .exitLoop c))) = atTime now t) :
    exec (.filterAccept now .exitLoop) s =
      .next (taken now (offer (.event now (.lineChange .exitLoop c.level c.stamp)) t)) := by
  refine filterAccept_line h hc hr rfl (Eq.trans ?_ ht)
  simp only [handOn, exitChange]
  rw [show (atTime now (s.accepting .exitLoop c)).psu.passage = some p from hp]

end

/-- Settles O38: the filter's own part, the switch, the strips and the loops. -/
theorem filterAcceptsAndHandsOn : Obligations.FilterAcceptsAndHandsOn := by
  intro s now i c h hc run g accepted ripe changed told fault crossing
  refine ⟨fun hr => ?_, fun hr => ?_, fun hr hi hq => ?_, fun hr hi hq => ?_, fun staged hr hi hl hst => ⟨fun hq => ?_, fun hq => ?_⟩,
    fun hr hi hl hp hrun => ?_, fun hr hl hk => ?_, fun p hr hp => ?_⟩
  · exact handle_nothing (now := now) h (acceptRipe_unripe hc hr)
  · exact ⟨_, filterAccept_ripe h hc hr, (congrArg (Ylu.filter · i) (sameQueue_accepting (s := s) (now := now)).1).trans
      ((filter_atTime now accepted i).trans (filter_setFilter ..))⟩
  · have hquiet : ¬ (c.level && s.axm.checking) = true := by
      rcases hq with hq | hq <;> simp [hq]
    rcases hi with rfl | rfl
    · exact filterAccept_strip h hc hr rfl (if_neg hquiet)
    · exact filterAccept_strip h hc hr rfl (if_neg hquiet)
  · subst hi
    refine filterAccept_line h hc hr rfl ?_
    by_cases hl : c.level = true
    · exact if_pos hl
    · exact (if_neg hl).trans (switchOpened_off (s := atTime now accepted) (hq.resolve_left hl))
  · subst hi
    refine filterAccept_line h hc hr rfl ((if_neg (by rw [hl]; decide)).trans ?_)
    refine (switchOpened_ends (s := atTime now accepted) hst hq).trans ?_
    exact congrArg (offer _) (setChanged_atTime staged true now (withStaged none accepted))
  · subst hi
    exact filterAccept_line h hc hr rfl ((if_neg (by rw [hl]; decide)).trans
      (switchOpened_recorded (s := atTime now accepted) hst hq))
  · subst hi
    refine filterAccept_line h hc hr rfl ?_
    rw [handOn, hl]
    exact (entryChange_opens (s := atTime now accepted) hp hrun).trans (openPassage_eq ..)
  · obtain ⟨hA, hB⟩ := stripPress_rows h hc hr hl hk
    refine ⟨fun hi hp => hA _ hi ?_, fun t0 hi hp hq => hA _ hi ?_, ?_, fun hi hp => hB _ hi ?_, fun t0 hi hp => hB _ hi ?_, ?_⟩
    · subst hi
      exact stripAPress_opens (s := atTime now accepted) hp
    · subst hi
      exact stripAPress_repeated (s := atTime now accepted) hp hq
    · intro t0 hi hp hne hw reversed
      subst hi
      have hrev := stripAPress_reverses (s := atTime now accepted) hp hne hw
      refine ⟨fun he => hA _ rfl (hrev.trans ?_), fun l r he => hA _ rfl (hrev.trans ?_)⟩
      · refine (reverseCrossing_none (s := setPairing none (atTime now accepted)) he).trans ?_
        rw [← he]
        rfl
      · exact reverseCrossing_removes (s := setPairing none (atTime now accepted)) he
    · subst hi
      exact stripBPress_opens (s := atTime now accepted) hp
    · subst hi
      exact stripBPress_repeated (s := atTime now accepted) hp
    · intro t0 hi hp hw hq joined
      subst hi
      refine ⟨fun hne => hB _ rfl ?_, fun heq => hB _ rfl ?_⟩
      · exact stripBPress_crosses (s := atTime now accepted) hp hne hw hq
      · subst heq
        exact stripBPress_simultaneous (s := atTime now accepted) hp hq
  · intro heavy cleared gone unchecked
    refine ⟨fun hi hl ha hx => ?_, fun hi hl ha hint => ?_, fun hi hl ha => ?_, fun hi hl ha hn => ?_,
      fun hi hl ha hn => ?_, fun hi hl ha => ?_, fun hi hl ha hint => ?_, fun hl ha hlight hi => ?_⟩
    · subst hi
      have hmove : ∀ t, moveOnBridge (some c.stamp) p (atTime now accepted) = atTime now t →
          run = .next (taken now (changed t)) := fun t ht =>
        filterAccept_line h hc hr rfl (Eq.trans (by
          rw [handOn, hl]
          exact entryChange_moves (s := atTime now accepted) hp ha hx) ht)
      refine ⟨fun hon => hmove _ ?_, fun hlist hlight => hmove _ ?_⟩
      · exact moveOnBridge_on (s := atTime now accepted) hon
      · refine (moveOnBridge_back (s := atTime now accepted) hlist hlight).trans
          ((toClearing_over (s := atTime now accepted) ⟨congrArg some hl, hx, hlight⟩).trans ?_)
        rw [ha]
        rfl
    · subst hi
      refine exitLoop_row h hc hr hp ((if_pos hl).trans ((exitOccupied_runThrough (s := atTime now accepted) ha hint).trans ?_))
      refine (toLeaving_stays (s := raiseRunThrough c.stamp p (atTime now accepted)) (show some c.level ≠ some false by rw [hl]; decide)).trans ?_
      have haxm : (if p.state = .arriving ∨ p.state = .onBridge then (endChecking s).axm else s.axm) =
          if p.state = .captured then s.axm else unchecked := by
        rcases ha with ha | ha | ha <;> rw [ha] <;> rfl
      rw [dropWaits_eq]
      exact congrArg (fun x => atTime now (told (some p.state) (some .leaving) .runThrough _
        (offer (.event now (.runThrough p.number p.state c.stamp))
          { accepted with psu := { s.psu with passage := some _, captureTimer := none }, axm := x }))) haxm
    · subst hi
      refine exitLoop_row h hc hr hp ((if_pos hl).trans ((exitOccupied_issuing ha).trans ?_))
      rw [raiseRunThrough, ha]
      rfl
    · subst hi
      refine exitLoop_row h hc hr hp ((if_pos hl).trans ((exitOccupied_done ha hn).trans ?_))
      refine (toLeaving_stays (s := atTime now accepted) (show some c.level ≠ some false by rw [hl]; decide)).trans ?_
      rw [ha]
      rfl
    · subst hi
      refine exitLoop_row h hc hr hp ((if_pos hl).trans ((exitOccupied_held ha hn).trans ?_))
      refine (toLeaving_stays (s := raiseRunThrough c.stamp p (atTime now accepted)) (show some c.level ≠ some false by rw [hl]; decide)).trans ?_
      rw [raiseRunThrough, ha]
      rfl
    · subst hi
      have hleft : ∀ t, passageLeft (some c.stamp) p (atTime now accepted) = atTime now t → run = .next (taken now (changed t)) :=
        fun t ht => exitLoop_row h hc hr hp ((if_neg (by rw [hl]; decide)).trans ((exitCleared_leaving ha).trans ht))
      refine ⟨fun hq => hleft _ (passageLeft_idle (s := atTime now accepted) ha hq), fun he hrun => hleft _ ?_⟩
      exact (passageLeft_follows (s := atTime now accepted) ha he hrun).trans (openPassage_eq ..)
    · subst hi
      have hcleared : ∀ t, toClearing .intruderLeft (some c.stamp) p (atTime now accepted) = atTime now t →
          run = .next (taken now (changed t)) := fun t ht =>
        exitLoop_row h hc hr hp ((if_neg (by rw [hl]; decide)).trans ((exitCleared_intruder ha hint).trans ht))
      refine ⟨fun hq => hcleared _ ((toClearing_stays (s := atTime now accepted) ?_).trans ?_), fun he hlight => hcleared _
        (toClearing_over (s := atTime now accepted) ⟨he, congrArg some hl, hlight⟩)⟩
      · rintro ⟨he, -, hlight⟩
        exact hq.elim (fun hne => hne he) hlight
      · rw [State.clearingFrom, if_pos ha]
        rfl
    · have hover : ∀ x, State.clearedOut x → x.psu.passage = some p →
          judgeClearing (some c.stamp) x = report (some .clearing) none .cleared (some c.stamp) p x.vacated := fun x hx hxp =>
        judgeClearing_over hxp ha hx
      rcases hi with ⟨rfl, hx⟩ | ⟨rfl, he⟩
      · exact filterAccept_line h hc hr rfl ((entryChange_clearing (s := atTime now accepted) hp ha).trans
          (hover (atTime now accepted) ⟨congrArg some hl, hx, hlight⟩ hp))
      · exact exitLoop_row h hc hr hp ((if_neg (by rw [hl]; decide)).trans
          ((exitCleared_clearing ha).trans (hover (atTime now accepted) ⟨he, congrArg some hl, hlight⟩ hp)))

end Sys2Proof.Machine
end

section
/-! SUPPORT. What a weight record, a pad result and a timer do to the passage (R70 to R80, R110 to R116). -/

namespace Sys2Proof.Machine

/-! ## The timers -/

section
variable {s : State} {p : Passage} {since t0 : Stamp} {direction : PairingDirection}

/-- The conditions a record fails, as propositions (R115). -/
theorem captureFailures_eq (r : WeightRecord) :
    captureFailures s r =
      (if s.rnc.runState = .run then [] else [.running]) ++ (if r.valid = true then [] else [.valid]) ++
      (if r.stable = true then [] else [.stable]) ++ (if r.test = true then [.notTest] else []) ++
      (if r.range = .inRange then [] else [.inRange]) ++
      (if 20 * (s.setInUse.division : Int) ≤ r.weight then [] else [.heavy]) := by
  have hrun : (if s.rnc.runState == .run then [] else [CaptureCondition.running]) =
      if s.rnc.runState = .run then [] else [.running] := if_congr beq_iff_eq rfl rfl
  have hrange : (if r.range == .inRange then [] else [CaptureCondition.inRange]) =
      if r.range = .inRange then [] else [.inRange] := if_congr beq_iff_eq rfl rfl
  have hheavy : (if s.heavy r.weight then [] else [CaptureCondition.heavy]) =
      if 20 * (s.setInUse.division : Int) ≤ r.weight then [] else [.heavy] := if_congr decide_eq_true_iff rfl rfl
  rw [captureFailures, hrun, hrange, hheavy]

/-- A record fails no condition of a capture. -/
theorem captureFailures_nil (r : WeightRecord) :
    captureFailures s r = [] ↔
      s.rnc.runState = .run ∧ r.valid = true ∧ r.stable = true ∧ r.test = false ∧ r.range = .inRange ∧
        20 * (s.setInUse.division : Int) ≤ r.weight := by
  rw [captureFailures_eq]
  simp only [List.append_eq_nil_iff, ite_eq_left_iff, ite_eq_right_iff, List.cons_ne_nil, imp_false, not_not, and_assoc,
    Bool.not_eq_true, Bool.not_eq_false]

/-- The capture timer runs out. -/
theorem captureTimer_due (hp : s.psu.passage = some p) (ht : s.psu.captureTimer = some since) (hs : p.state = .onBridge)
    (h : s.rnc.site.captureTimeout * 1000000 ≤ (s.ylu.timebase - since).toNat) :
    captureTimer s = captureTimedOut p s := by
  simp only [captureTimer, hp, ht, hs]
  exact if_pos (by rw [beq_self_eq_true, Bool.true_and]; exact decide_eq_true h)

/-- The capture timer runs on, or means nothing. -/
theorem captureTimer_runs (hp : s.psu.passage = some p) (ht : s.psu.captureTimer = some since)
    (h : p.state ≠ .onBridge ∨ (s.ylu.timebase - since).toNat < s.rnc.site.captureTimeout * 1000000) :
    captureTimer s = s := by
  simp only [captureTimer, hp, ht]
  refine if_neg ?_
  rw [Bool.and_eq_true, beq_iff_eq, decide_eq_true_eq]
  rintro ⟨hs, hdue⟩
  exact h.elim (fun hn => hn hs) (Nat.not_lt.2 hdue)

/-- An open pairing expires. -/
theorem pairingTimer_due (hk : s.axm.checking = true) (hp : s.axm.pairing = some ⟨direction, t0⟩)
    (h : s.rnc.site.pairingWindow * 1000 + s.rnc.site.stripFilter * 100 + 1 ≤ (s.ylu.timebase - t0).toNat) :
    pairingTimer s = expirePairing ⟨direction, t0⟩ s := by
  simp only [pairingTimer, hp, hk, Bool.true_and]
  exact if_pos (decide_eq_true h)

/-- An open pairing stands. -/
theorem pairingTimer_runs (hp : s.axm.pairing = some ⟨direction, t0⟩)
    (h : (s.ylu.timebase - t0).toNat < s.rnc.site.pairingWindow * 1000 + s.rnc.site.stripFilter * 100 + 1) :
    pairingTimer s = s := by
  simp only [pairingTimer, hp]
  refine if_neg ?_
  rw [Bool.and_eq_true, decide_eq_true_eq]
  rintro ⟨-, hdue⟩
  exact Nat.not_lt.2 hdue h

theorem passageNumber_some (hp : s.psu.passage = some p) : s.passageNumber = p.number := by
  simp only [State.passageNumber, hp]

end

/-! ## A weight record -/

section
variable {s : State} {p : Passage} {r : WeightRecord}

/-- The vehicle vanishes (R110). -/
theorem recordTaken_vanishes (hp : s.psu.passage = some p) (ha : p.state = .onBridge ∨ p.state = .captured)
    (hstable : r.stable = true) (hlight : r.weight < 20 * (s.setInUse.division : Int))
    (he : s.ylu.entryLoop.accepted = some false) (hx : s.ylu.exitLoop.accepted = some false) :
    recordTaken r s = toClearing .vanished none p s := by
  have hvanish : (r.stable && !s.heavy r.weight && s.entryClear && s.exitClear) = true := by
    simp [hstable, State.heavy, hlight, State.entryClear, he, State.exitClear, hx]
  rcases ha with ha | ha <;> simp only [recordTaken, hp, ha, hvanish, if_true]

/-- The record finds a passage in CLEARING. -/
theorem recordTaken_clearing (hp : s.psu.passage = some p) (ha : p.state = .clearing) :
    recordTaken r s = judgeClearing none s := by
  simp only [recordTaken, hp, ha]

/-- The states in which a record says nothing to the passage. -/
theorem recordTaken_quiet (hp : s.psu.passage = some p) (ha : p.state ∈ [.arriving, .issuing, .done, .leaving]) :
    recordTaken r s = s := by
  simp only [List.mem_cons, List.not_mem_nil, or_false] at ha
  rcases ha with ha | ha | ha | ha <;> simp only [recordTaken, hp, ha]

/-- On the bridge, a record that shows a vehicle. -/
theorem recordTaken_bridge (hp : s.psu.passage = some p) (ha : p.state = .onBridge ∨ p.state = .captured)
    (hv : ¬ (r.stable = true ∧ r.weight < 20 * (s.setInUse.division : Int) ∧ s.ylu.entryLoop.accepted = some false ∧
      s.ylu.exitLoop.accepted = some false)) :
    recordTaken r s =
      if p.state == .onBridge && !p.intruder && (captureFailures s r).isEmpty then capture r p s else s := by
  have hvanish : ¬ (r.stable && !s.heavy r.weight && s.entryClear && s.exitClear) = true := by
    simpa [State.heavy, State.entryClear, State.exitClear, and_assoc] using hv
  rcases ha with ha | ha
  · simp only [recordTaken, hp, ha]
    exact if_neg hvanish
  · simp only [recordTaken, hp, ha]
    exact if_neg hvanish

/-- The passage as a capture leaves it, before the request is judged (R115). -/
@[reducible] def Passage.capturedBy (r : WeightRecord) (s : State) (p : Passage) : Passage :=
  { p with
    state := .captured, holds := dropHold .unstable p.holds
    capture := some { weight := r.weight, scan := r.scan, stamp := s.ylu.timebase, time := s.cck.time, calCount := r.calCount } }

/-- A capture with the axles as they then stand, where no verdict is due. -/
theorem capture_unjudged {a : Axm}
    (ha : captureAxles { s with psu := { s.psu with passage := some (p.capturedBy r s), captureTimer := none } } =
      { s with psu := { s.psu with passage := some (p.capturedBy r s), captureTimer := none }, axm := a })
    (hv : p.identity = none ∨ a.final = false) (hx : p.axles = none) :
    let q := p.capturedBy r s
    let captured : State := { s with psu := { s.psu with passage := some q, captureTimer := none }, axm := a }
    let told (q : Passage) (x : State) : State := report (some .onBridge) (some .captured) .capture none q x
    (requestOutcome captured q = .notMade → capture r p s = told q captured) ∧
    (requestOutcome captured q = .accepted → capture r p s = told q (issueTicket q captured)) ∧
    (∀ w, requestOutcome captured q = .refused w →
      capture r p s = told { q with holds := addHold w q.holds } (setPassage { q with holds := addHold w q.holds } captured)) := by
  intro q captured told
  have hverdict : ∀ x, x.axm = a → verdictOf x q = none := fun x hxa => by
    rcases hv with hv | hv
    · rw [verdictOf, show q.identity = none from hv]
    · cases hi : p.identity with
      | none => rw [verdictOf, show q.identity = none from hi]
      | some i =>
        rw [verdictOf, show q.identity = some i from hi]
        exact if_neg (by rw [hxa, hv]; decide)
  have hjudged : q.judged captured = q := by rw [Passage.judged, hverdict captured rfl]
  have hkept : keepResult q.axles (setPassage q captured) = captured := by rw [show q.axles = none from hx]; rfl
  have hstart : captureAxles (stopCaptureTimer (setPassage (p.capturedBy r s) s)) = captured := ha
  refine ⟨fun ho => ?_, fun ho => ?_, fun w ho => ?_⟩
  all_goals
    simp only [capture]
    rw [hstart, hjudged, hkept, ho]

end

/-! ## The axles at capture -/

section
variable {s : State}

/-- The list made final at the end of a capture (R80). -/
def finalAxles (s : State) : State :=
  { s with axm := { s.axm with
      checking := false, dwell := none, final := true, list := numberGroups s.rnc.site.groupGap 0 s.axm.list } }

/-- A capture without an open pairing closes the resting axle, and the list is final where no other waits. -/
theorem captureAxles_unpaired {x : State} (hk : s.axm.checking = true) (hp : s.axm.pairing = none) (hx : closeResting s = x)
    (hq : x.axm.queue = []) : captureAxles s = finalAxles x := by
  have hsame : setPairing none s = s := by rw [setPairing, ← hp]
  simp only [captureAxles, hk, if_true, hp, hsame, hx]
  rw [congrArg (closeRest · x) hq]
  rfl

theorem closeResting_empty (hq : s.axm.queue = []) : closeResting s = s := by rw [closeResting, hq]

/-- An axle closes into a list with room (R77, R78). -/
theorem closeAxle_room {e : PendingAxle} {load : Option Int} {n : Nat} {noPad short resting : Bool} (h : s.axm.list.length < 12) :
    closeAxle e load n noPad short resting s =
      let r := { axleRecord s.axm s.rnc.site.speedLimit e load n noPad short resting with
        index := some (s.axm.list.length + 1) }
      offer (.axle s.passageNumber .closed r) { s with axm := { s.axm with list := s.axm.list ++ [r], afterReverse := false } } :=
  if_pos h

/-- The resting axle closes (R80). -/
theorem closeResting_closes {e : PendingAxle} {rest : List PendingAxle} {d : Dwell} (hq : s.axm.queue = e :: rest)
    (ho : e.onPad = true) (hd : s.axm.dwell = some d) :
    closeResting s =
      let load := d.load s.rnc.site.trim s.rnc.site.minDwell s.setInUse.division
      closeAxle e load (d.remaining s.rnc.site.trim) false load.isNone true (setAxleQueue rest s) := by
  simp only [closeResting, hq, ho, if_true, hd]

/-! ## Pad results -/

section
variable {g : Int} {d : Dwell}

/-- A pad result, with the pad's state still unknown (R72, R73). -/
theorem padResult_unknown (hk : s.axm.checking = true) (hp : s.axm.pad = .unknown) :
    padResult (some g) s =
      if (s.rnc.site.padOn : Int) * 1000 < g then setPad .active (some (newDwell s.rnc.site.trim g true)) s
      else setPad .inactive none s := by
  simp only [padResult, hk, Bool.not_true, Bool.false_eq_true, if_false, hp]
  exact if_congr decide_eq_true_iff rfl rfl

/-- A pad result below the activation. -/
theorem padResult_below (hk : s.axm.checking = true) (hp : s.axm.pad = .inactive) (hg : g ≤ (s.rnc.site.padOn : Int) * 1000) :
    padResult (some g) s = s := by
  simp only [padResult, hk, Bool.not_true, Bool.false_eq_true, if_false, hp]
  exact if_neg (by rw [decide_eq_true_eq]; exact Int.not_lt.2 hg)

/-- An activation. -/
theorem padResult_activates (hk : s.axm.checking = true) (hp : s.axm.pad = .inactive)
    (hg : (s.rnc.site.padOn : Int) * 1000 < g) : padResult (some g) s = activatePad g s := by
  simp only [padResult, hk, Bool.not_true, Bool.false_eq_true, if_false, hp]
  exact if_pos (decide_eq_true hg)

/-- A dwell goes on. -/
theorem padResult_dwells (hk : s.axm.checking = true) (hp : s.axm.pad = .active) (hd : s.axm.dwell = some d)
    (hg : (s.rnc.site.padOff : Int) * 1000 ≤ g) :
    padResult (some g) s = setPad .active (some (d.add s.rnc.site.trim g)) s := by
  simp only [padResult, hk, Bool.not_true, Bool.false_eq_true, if_false, hp, hd]
  exact if_neg (by rw [decide_eq_true_eq]; exact Int.not_lt.2 hg)

/-- A release. -/
theorem padResult_releases (hk : s.axm.checking = true) (hp : s.axm.pad = .active)
    (hg : g < (s.rnc.site.padOff : Int) * 1000) : padResult (some g) s = releasePad s := by
  simp only [padResult, hk, Bool.not_true, Bool.false_eq_true, if_false, hp]
  exact if_pos (decide_eq_true hg)

/-- The end of a detached dwell. -/
theorem releasePad_detached (hd : s.axm.dwell = some d) (hdet : d.detached = true) :
    releasePad s = setPad .inactive none s := by
  cases hq : s.axm.queue <;> simp only [releasePad, hd, hq, hdet, if_true]

/-- A short dwell of an axle that only the pad saw leaves no trace (R76). -/
theorem releasePad_forgets {e : PendingAxle} {rest : List PendingAxle} (hd : s.axm.dwell = some d) (hdet : d.detached = false)
    (hq : s.axm.queue = e :: rest) (hl : d.load s.rnc.site.trim s.rnc.site.minDwell s.setInUse.division = none)
    (ho : e.padOnly = true) : releasePad s = setAxleQueue rest (setPad .inactive none s) := by
  simp only [releasePad, hd, hq, hdet, Bool.false_eq_true, if_false, hl, ho, if_true]

/-- Any other axle closes with what its dwell gives (R75, R76). -/
theorem releasePad_closes {e : PendingAxle} {rest : List PendingAxle} (hd : s.axm.dwell = some d) (hdet : d.detached = false)
    (hq : s.axm.queue = e :: rest)
    (hl : d.load s.rnc.site.trim s.rnc.site.minDwell s.setInUse.division ≠ none ∨ e.padOnly = false) :
    releasePad s =
      let load := d.load s.rnc.site.trim s.rnc.site.minDwell s.setInUse.division
      closeAxle e load (d.remaining s.rnc.site.trim) false load.isNone false
        (setAxleQueue rest (setPad .inactive none s)) := by
  cases hload : d.load s.rnc.site.trim s.rnc.site.minDwell s.setInUse.division with
  | some load => simp only [releasePad, hd, hq, hdet, Bool.false_eq_true, if_false, hload, Option.isNone_some]
  | none =>
    have ho : e.padOnly = false := hl.resolve_left fun hn => hn hload
    simp only [releasePad, hd, hq, hdet, Bool.false_eq_true, if_false, hload, ho, Option.isNone_none]

/-- A dwell that can still count takes the sample. -/
theorem dwell_add_counts (trim : Nat) (h : d.count < 65535) :
    d.add trim g =
      { d with
        count := d.count + 1, sum := d.sum + g, first := if d.first.length < trim then d.first ++ [g] else d.first
        latest := (d.latest ++ [g]).drop (d.latest.length + 1 - trim) } := if_pos h

end

/-- A passage without an identity makes no request. -/
theorem requestOutcome_unbound {p : Passage} (h : p.identity = none) : requestOutcome s p = .notMade := by
  rw [requestOutcome, h]

end

/-- The capture timer's wait, its event and its report. -/
theorem captureTimedOut_eq {s : State} {p : Passage} {r : WeightRecord} (hs : p.state = .onBridge) (hr : s.wge.latest = some r) :
    captureTimedOut p s =
      report (some .onBridge) (some .onBridge) .holdChange none { p with holds := addHold .unstable p.holds }
        (raise (.captureTimeout p.number (captureFailures s r))
          { s with psu := { s.psu with passage := some { p with holds := addHold .unstable p.holds }, captureTimer := none } }) := by
  rw [captureTimedOut, hr]
  exact congrArg (fun x => report (some x) (some x) .holdChange none _ _) hs

/-- Settles O39: the capture timer and the pairing's window by their time, a weight record by the passage's state, and a pad result by
the dwell. -/
theorem passageTimersRunOut : Obligations.PassageTimersRunOut := by
  refine ⟨?_, ?_, ?_, ?_⟩
  · intro s now since p h hp ht
    refine ⟨?_, fun hn => handle_nothing (now := now) h (captureTimer_runs (s := atTime now s) hp ht hn)⟩
    intro r hs hdue hr failed p'
    refine handle_calm (now := now) h ?_ h.1.2 ?_ ?_
    · refine (captureTimer_due (s := atTime now s) hp ht hs hdue).trans ((captureTimedOut_eq (s := atTime now s) hs hr).trans ?_)
      rw [captureFailures_eq]
      rfl
    · exact (offer_keeps _ _).1.trans (offer_keeps _ _).1
    · exact (offer_keeps _ _).2.1.trans (offer_keeps _ _).2.1
  · intro s now t0 direction p h hk hp hd due
    refine ⟨fun hdue hdir hq => ?_, fun hdue hdir => ?_, fun hn => ?_⟩
    · subst hdir
      refine handle_calm (now := now) h ((pairingTimer_due (s := atTime now s) hk hd hdue).trans ?_) h.1.2
        (offer_keeps _ _).1 (offer_keeps _ _).2.1
      rw [expirePairing]
      dsimp only
      rw [joinForward_room (s := setPairing none (atTime now s)) hq, stripFault]
      exact congrArg (fun n => offer (.event now (.stripFault n .aExpired t0)) _) (passageNumber_some (s := s) hp)
    · subst hdir
      refine handle_calm (now := now) h ((pairingTimer_due (s := atTime now s) hk hd hdue).trans ?_) h.1.2
        (offer_keeps _ _).1 (offer_keeps _ _).2.1
      exact congrArg (fun n => offer (.event now (.stripFault n .bExpired t0)) _) (passageNumber_some (s := s) hp)
    · exact handle_nothing (now := now) h (pairingTimer_runs (s := atTime now s) hd hn)
  · intro s r p hp hr clear light vanishes captures told gone
    have hweight : s.latestWeight = r.weight := by rw [State.latestWeight, hr]
    have hout : light → clear → s.clearedOut := fun hl hc => ⟨hc.1, hc.2, by rw [hweight]; exact Int.not_le.2 hl⟩
    refine ⟨fun ha hv => ?_, fun ha hl hc => ?_, ?_, ?_⟩
    · exact (recordTaken_vanishes hp ha hv.1 hv.2.1 hv.2.2.1 hv.2.2.2).trans (toClearing_over (hout hv.2.1 hv.2.2))
    · exact (recordTaken_clearing hp ha).trans (judgeClearing_over hp ha (hout hl hc))
    · rintro (ha | ⟨ha, hn⟩ | ⟨ha, hn⟩ | ⟨ha, hn, hi⟩)
      · exact recordTaken_quiet hp ha
      · refine (recordTaken_clearing hp ha).trans (judgeClearing_goes_on hp fun hc => hn ⟨?_, hc.1, hc.2.1⟩)
        have := hc.2.2
        rwa [hweight, Int.not_le] at this
      · refine (recordTaken_bridge hp (.inr ha) hn).trans (if_neg (by rw [ha]; exact Bool.false_ne_true))
      · refine (recordTaken_bridge hp (.inl ha) hn).trans (if_neg ?_)
        rw [Bool.and_eq_true, Bool.and_eq_true, List.isEmpty_iff, captureFailures_nil]
        rintro ⟨⟨-, hint⟩, hrun, hvalid, hstable, htest, hrange, hheavy⟩
        rcases hi with hi | hi
        · rw [hi] at hint; cases hint
        · exact hi ⟨hrun, hvalid, hstable, htest, hrange, Int.not_lt.2 hheavy⟩
    · intro ha hint hax hcap q captured
      obtain ⟨hrun, hvalid, hstable, htest, hrange, hheavy⟩ := hcap
      have hnv : ¬ vanishes := fun hv => hheavy hv.2.1
      have hrow : recordTaken r s = capture r p s := by
        refine (recordTaken_bridge hp (.inl ha) hnv).trans (if_pos ?_)
        rw [Bool.and_eq_true, Bool.and_eq_true, List.isEmpty_iff, captureFailures_nil, ha, hint]
        exact ⟨⟨rfl, rfl⟩, hrun, hvalid, hstable, htest, hrange, Int.not_lt.1 hheavy⟩
      refine ⟨fun hk hf => ?_, fun hk hpair hq hid => ?_⟩
      · have hsame : captureAxles captured = captured := if_neg (by rw [show captured.axm.checking = false from hk]; decide)
        obtain ⟨hnot, hyes, hno⟩ := capture_unjudged (s := s) (r := r) (p := p) (a := s.axm) hsame (.inr hf) hax
        exact ⟨fun ho => hrow.trans (hnot ho), fun ho => hrow.trans (hyes ho), fun w ho => hrow.trans (hno w ho)⟩
      · have hempty := captureAxles_unpaired (s := captured) hk hpair (closeResting_empty hq) hq
        exact hrow.trans ((capture_unjudged (s := s) (r := r) (p := p) hempty (.inl hid) hax).1 (requestOutcome_unbound hid))
  · intro s hk x pad started left load record
    have hload : ∀ d : Dwell, d.load x.trim x.minDwell s.setInUse.division = load d := fun d => by
      rw [Dwell.load, sumInt_eq, sumInt_eq]
      rfl
    have hrecord : ∀ (e : PendingAxle) (l : Option Int) (n : Nat) (resting : Bool),
        { axleRecord s.axm x.speedLimit e l n false l.isNone resting with index := some (s.axm.list.length + 1) } =
          record e l n resting := fun e l n resting => by
      simp only [record, axleRecord, axleSpacing, AxleRecord.mk.injEq, AxleFlags.mk.injEq, true_and, and_true]
      constructor
      · refine if_congr Iff.rfl rfl ?_
        cases s.axm.list.getLast? with
        | none => rfl
        | some previous =>
          obtain ⟨-, crossing, -⟩ := previous
          cases crossing <;> cases e.crossing <;> cases e.speed <;> rfl
      · cases e.speed <;> rfl
    refine ⟨rfl, fun g hp => padResult_unknown hk hp, fun g hp => ⟨fun hg => padResult_below hk hp hg, fun hg hi => ?_,
      fun e rest hg hi hq => ?_, fun hg hi hq => ?_⟩, fun g d hp hd => ⟨fun hg hc => ?_, fun hg hc => ?_, fun hg hdet => ?_, ?_⟩, ?_⟩
    · refine (padResult_activates hk hp hg).trans ?_
      rw [activatePad, hi]
      rfl
    · refine (padResult_activates hk hp hg).trans ?_
      rw [activatePad, hi, hq]
      rfl
    · refine (padResult_activates hk hp hg).trans ?_
      rw [activatePad, hi, hq]
      rfl
    · rw [padResult_dwells hk hp hd hg, dwell_add_counts x.trim hc]
      rfl
    · have hfull : d.add x.trim g = d := if_neg (Nat.not_lt.2 hc)
      rw [padResult_dwells hk hp hd hg, hfull, setPad, ← hp, ← hd]
    · exact (padResult_releases hk hp hg).trans (releasePad_detached hd hdet)
    · intro e rest hg hdet hq hroom r
      refine ⟨fun hl ho => ?_, fun hl => ?_⟩
      · exact (padResult_releases hk hp hg).trans (releasePad_forgets hd hdet hq ((hload d).trans hl) ho)
      · refine (padResult_releases hk hp hg).trans ((releasePad_closes hd hdet hq ((hload d).symm ▸ hl)).trans ?_)
        rw [hload d]
        refine (closeAxle_room (s := setAxleQueue rest (setPad .inactive none s)) hroom).trans ?_
        exact congrArg (fun r => offer (.axle s.passageNumber .closed r)
          { s with axm := { s.axm with
            pad := .inactive, dwell := none, queue := rest, list := s.axm.list ++ [r], afterReverse := false } })
          (hrecord e (load d) (left d) false)
    · intro d e hp hq ho hd hroom r
      have hclose := (closeResting_closes hq ho hd).trans
        (closeAxle_room (s := setAxleQueue [] s) hroom)
      refine (captureAxles_unpaired hk hp hclose rfl).trans ?_
      rw [hload d]
      exact congrArg (fun r => offer (.axle s.passageNumber .closed r)
        { s with axm := { s.axm with
          checking := false, dwell := none, queue := [], final := true, afterReverse := false
          list := numberGroups x.groupGap 0 (s.axm.list ++ [r]) } })
        (hrecord e (load d) (left d) true)

end Sys2Proof.Machine
end

section
/-! SUPPORT. The ticket request and the ticket it composes (R123, R134 to R141), and the directives of the Passage Unit and the Ticket
Unit (R117 to R131). -/

namespace Sys2Proof.Machine

/-! ## The ticket request -/

section
variable {s : State} {p : Passage} {i : Identity}

/-- The holds that keep a request from being made are all but three (R120, R123). -/
theorem holds_quiet_iff {holds : List HoldReason} :
    (holds.any (·.isPreTicket) = false ∧ holds.any (·.isRequestWait) = false) ↔
      ∀ r, r ∈ holds → r = .probe ∨ r = .overload ∨ r = .unstable := by
  have hone : ∀ r : HoldReason, r.isPreTicket = false ∧ r.isRequestWait = false ↔ r = .probe ∨ r = .overload ∨ r = .unstable := by
    intro r
    cases r <;> decide
  simp only [List.any_eq_false, Bool.not_eq_true, ← forall_and]
  exact forall₂_congr fun r _ => hone r

/-- When a request is made (R123). -/
theorem requestMade_iff :
    requestMade s p = true ↔
      (p.state = .captured ∧ p.intruder = false ∧ s.rnc.runState = .run ∧
        ∀ r, r ∈ p.holds → r = .probe ∨ r = .overload ∨ r = .unstable) ∧ p.identity.isSome = true := by
  simp only [requestMade, Bool.and_eq_true, beq_iff_eq, Bool.not_eq_true', ← holds_quiet_iff]
  tauto

/-- A request that is not made. -/
theorem requestOutcome_notMade (h : requestMade s p ≠ true) : requestOutcome s p = .notMade := by
  cases hi : p.identity with
  | none => rw [requestOutcome, hi]
  | some i => rw [requestOutcome, hi]; exact if_neg h

/-- A request that is refused. -/
theorem requestOutcome_refused {r : HoldReason} (hi : p.identity = some i) (h : requestMade s p = true)
    (hr : requestRefusal s (ticketType s i) = some r) : requestOutcome s p = .refused r := by
  rw [requestOutcome, hi]
  refine (if_pos h).trans ?_
  rw [hr]

/-- A request that is accepted. -/
theorem requestOutcome_accepted (hi : p.identity = some i) (h : requestMade s p = true)
    (hr : requestRefusal s (ticketType s i) = none) : requestOutcome s p = .accepted := by
  rw [requestOutcome, hi]
  refine (if_pos h).trans ?_
  rw [hr]

/-- A request is accepted exactly when it is made and no check refuses it. -/
theorem requestOutcome_accepted_iff :
    requestOutcome s p = .accepted ↔
      requestMade s p = true ∧ ∃ i, p.identity = some i ∧ requestRefusal s (ticketType s i) = none := by
  refine ⟨fun h => ?_, fun ⟨hm, i, hi, hr⟩ => requestOutcome_accepted hi hm hr⟩
  have hm : requestMade s p = true := by
    by_contra hn
    rw [requestOutcome_notMade hn] at h
    cases h
  obtain ⟨i, hi⟩ := Option.isSome_iff_exists.1 (requestMade_iff.1 hm).2
  refine ⟨hm, i, hi, ?_⟩
  cases hr : requestRefusal s (ticketType s i) with
  | none => rfl
  | some r =>
    rw [requestOutcome_refused hi hm hr] at h
    cases h

/-! ### The checks, in order -/

variable {type : TicketType}

/-- The TKU's area can be used and the store works. -/
def State.ticketsWork (s : State) : Prop :=
  s.stc.fault = false ∧ s.stc.damaged.ticket = false ∧ s.stc.damaged.transaction = false ∧ s.stc.store.ticket.next ≠ 0

theorem ticketsWork_iff : ¬ (s.stc.fault || !s.ticketsUsable) = true ↔ s.ticketsWork := by
  rw [Bool.or_eq_true, Bool.not_eq_true', not_or, Bool.not_eq_true, Bool.not_eq_false, ticketsUsable_iff]
  exact Iff.rfl

theorem requestRefusal_storeFault (h : ¬ s.ticketsWork) : requestRefusal s type = some .storeFault :=
  if_pos (not_not.1 fun hn => h (ticketsWork_iff.1 hn))

theorem requestRefusal_notVerified (h : s.ticketsWork) (hv : s.reasonSet ≠ []) : requestRefusal s type = some .notVerified :=
  (if_neg (ticketsWork_iff.2 h)).trans (if_pos (by simpa [State.verified] using hv))

theorem requestRefusal_ringBlocked (h : s.ticketsWork) (hv : s.reasonSet = []) (hf : s.fillSlotPosted = true) :
    requestRefusal s type = some .ringBlocked :=
  (if_neg (ticketsWork_iff.2 h)).trans ((if_neg (by rw [verified_iff.2 hv]; decide)).trans (if_pos hf))

theorem requestRefusal_table (h : s.ticketsWork) (hv : s.reasonSet = []) (hf : s.fillSlotPosted = false) :
    requestRefusal s type =
      if type == .first && 64 ≤ s.stc.store.transaction.table.length then some .tableFull else none :=
  (if_neg (ticketsWork_iff.2 h)).trans ((if_neg (by rw [verified_iff.2 hv]; decide)).trans (if_neg (by rw [hf]; decide)))

/-- No check refuses the request. -/
theorem requestRefusal_none_iff :
    requestRefusal s type = none ↔
      s.ticketsWork ∧ s.reasonSet = [] ∧ s.fillSlotPosted = false ∧
        (type ≠ .first ∨ s.stc.store.transaction.table.length < 64) := by
  by_cases h : s.ticketsWork
  · by_cases hv : s.reasonSet = []
    · cases hf : s.fillSlotPosted with
      | true => simp [requestRefusal_ringBlocked h hv hf]
      | false =>
        rw [requestRefusal_table h hv hf]
        simp [h, hv, imp_iff_not_or]
    · simp [requestRefusal_notVerified h hv, hv]
  · simp [requestRefusal_storeFault h, h]

/-! ### The type of a ticket -/

theorem findOpen_isSome_iff {tag : Tag} {table : List OpenEntry} :
    (findOpen tag table).isSome = true ↔ ∃ e ∈ table, e.tag = tag := by
  simp [findOpen]

theorem ticketType_second {e : OpenEntry} (h : findOpen i.tag s.stc.store.transaction.table = some e) :
    ticketType s i = .second := by
  rw [ticketType, h]

theorem ticketType_closed (h : findOpen i.tag s.stc.store.transaction.table = none) :
    ticketType s i = if i.onePass && i.presetAllowed && i.tare.isSome then .onePass else .first := by
  rw [ticketType, h]

theorem ticketType_onePass {tare : Nat} (h : findOpen i.tag s.stc.store.transaction.table = none) (ho : i.onePass = true)
    (ha : i.presetAllowed = true) (ht : i.tare = some tare) : ticketType s i = .onePass := by
  rw [ticketType_closed h, ho, ha, ht]
  rfl

theorem ticketType_first (h : findOpen i.tag s.stc.store.transaction.table = none)
    (hp : i.onePass = false ∨ i.presetAllowed = false ∨ i.tare = none) : ticketType s i = .first := by
  rw [ticketType_closed h, if_neg]
  rcases hp with hp | hp | hp <;> simp [hp]

/-- A ticket is not a first one with an open entry, or where one pass is enough. -/
theorem ticketType_ne_first_iff :
    ticketType s i ≠ .first ↔
      (∃ e ∈ s.stc.store.transaction.table, e.tag = i.tag) ∨ (i.onePass = true ∧ i.presetAllowed = true ∧ i.tare ≠ none) := by
  rw [← findOpen_isSome_iff]
  cases h : findOpen i.tag s.stc.store.transaction.table with
  | some e => simp [ticketType_second h]
  | none =>
    rw [ticketType_closed h]
    simp [Option.isSome_iff_ne_none, and_assoc]

end

/-! ## The ticket composed at the acceptance -/

section
variable {s : State} {p : Passage} {i : Identity} {c : Capture}

/-- The flags of a ticket, read off the passage and the open entry (R138). -/
theorem ticketFlags_eq (type : TicketType) (entry : Option OpenEntry) (net : Option Int) :
    ticketFlags type entry net p c =
      { negativeNet := net.any fun n => decide (n < 0)
        generationChanged := type == .second && entry.any fun e => decide (e.calCount ≠ c.calCount)
        axleOver := p.axles.any fun a => decide (a.summary.verdict = .exceeded)
        grossOver := p.axles.any fun a => a.grossOver
        axleCount := p.axles.any fun a => a.axleCountFlag
        probe := decide (.probe ∈ p.holds)
        runThrough := p.runThrough } := by
  have hprobe : p.holds.contains .probe = decide (HoldReason.probe ∈ p.holds) := by rw [List.contains_eq_mem]
  simp only [ticketFlags, hprobe, TicketFlags.mk.injEq, and_true]
  refine ⟨?_, ?_, ?_, ?_, ?_⟩
  · cases net <;> rfl
  · cases entry with
    | none => rfl
    | some e => simp only [Option.any_some, bne, beq_eq_decide, decide_not]
  · cases p.axles with
    | none => rfl
    | some a => exact beq_eq_decide ..
  · cases p.axles <;> rfl
  · cases p.axles <;> rfl

end

/-- Settles O10: the acceptance, the first refusal, and the ticket with its update. -/
theorem ticketRequestAccepted : Obligations.TicketRequestAccepted := by
  refine ⟨fun s p => ?_, ?_, ?_⟩
  · rw [requestOutcome_accepted_iff]
    simp only [requestMade_iff, requestRefusal_none_iff, ticketType_ne_first_iff, State.ticketsWork]
    constructor
    · rintro ⟨⟨⟨hs, hi, hr, hh⟩, -⟩, i, hid, ⟨hf, hd⟩, hv, hfill, ht⟩
      exact ⟨hs, hi, hr, hh, hf, hv, hd, hfill, i, hid, or_assoc.1 ht⟩
    · rintro ⟨hs, hi, hr, hh, hf, hv, hd, hfill, i, hid, ht⟩
      exact ⟨⟨⟨hs, hi, hr, hh⟩, by rw [hid]; rfl⟩, i, hid, ⟨hf, hd⟩, hv, hfill, or_assoc.2 ht⟩
  · intro s p i hid made usable
    have hmade : made → requestMade s p = true := fun hm => requestMade_iff.2 ⟨hm, by rw [hid]; rfl⟩
    refine ⟨fun hm => requestOutcome_notMade fun h => hm (requestMade_iff.1 h).1,
      fun hm hu => requestOutcome_refused hid (hmade hm) (requestRefusal_storeFault hu),
      fun hm hu hv => requestOutcome_refused hid (hmade hm) (requestRefusal_notVerified hu hv),
      fun hm hu hv hf => requestOutcome_refused hid (hmade hm) (requestRefusal_ringBlocked hu hv hf),
      fun hm hu hv hf ht hp hl => requestOutcome_refused hid (hmade hm) ?_⟩
    rw [requestRefusal_table hu hv hf, ticketType_first (findOpen_eq_none ht) hp]
    exact if_pos (decide_eq_true hl)
  · intro s p i c entry ticket
    refine ⟨fun e he => ⟨?_, ?_⟩, fun tare he ho ha ht => ⟨?_, ?_⟩, fun he hp => ⟨?_, ?_⟩, fun hi hc hf => ?_⟩
    · have hentry : findOpen i.tag s.stc.store.transaction.table = some e := he
      simp only [composeTicket, ticketType_second he, hentry, ticketFlags_eq, ticketNet, Option.map_some]
      cases e.kind <;> rfl
    · rw [tableChange, ticketType_second he]
    · have hentry : findOpen i.tag s.stc.store.transaction.table = none := he
      simp only [composeTicket, ticketType_onePass he ho ha ht, hentry, ht, ticketFlags_eq, ticketNet]
      rfl
    · rw [tableChange, ticketType_onePass he ho ha ht]
    · have hentry : findOpen i.tag s.stc.store.transaction.table = none := he
      simp only [composeTicket, ticketType_first he hp, hentry, ticketFlags_eq, ticketNet]
      rfl
    · rw [tableChange, ticketType_first he hp]
    · rw [issueTicket, hi, hc]
      dsimp only
      rw [handUpdate_clear _ hf]
      rfl

end Sys2Proof.Machine
end

section
/-! SUPPORT. The vehicle and class tables (R90 to R98): what a put leaves in a table, and the directives row by row. -/

namespace Sys2Proof.Machine

/-! ## Fields -/

theorem presence_iff {b : Byte} : presence b = none ↔ b ≠ 0 ∧ b ≠ 1 := by
  simp only [presence, beq_iff_eq]
  split_ifs with h0 h1
  · simp [h0]
  · simp [h1]
  · exact iff_of_true rfl ⟨h0, h1⟩

theorem classOf_none {b : Byte} (h : b = 0 ∨ 16 < b.toNat) : classOf b = none :=
  nodeOf_none (h.imp_left fun h0 => by rw [h0]; rfl)

/-! ## The vehicle table -/

/-- A put replaces the entry of its tag and no other (R90). -/
theorem findVehicle_insertVehicle (v : Vehicle) (vs : List Vehicle) (tag : Tag) :
    findVehicle tag (insertVehicle v vs) = if tag = v.tag then some v else findVehicle tag vs := by
  have hcons : ∀ (x : Vehicle) (rest : List Vehicle),
      findVehicle tag (x :: rest) = if tag = x.tag then some x else findVehicle tag rest := fun x rest => by
    simp only [findVehicle, List.find?_cons, beq_eq_decide, eq_comm (a := x.tag)]
    by_cases h : tag = x.tag <;> simp [h]
  induction vs with
  | nil => exact hcons v []
  | cons x rest ih =>
    simp only [insertVehicle]
    split
    · next heq =>
      rw [hcons, hcons, heq]
      split <;> rfl
    · next hne =>
      split
      · exact hcons v _
      · rw [hcons, hcons, ih]
        by_cases hx : tag = x.tag
        · rw [if_pos hx, if_pos hx, if_neg (hx ▸ Ne.symm hne)]
        · rw [if_neg hx, if_neg hx]

/-! ### The rows of PUT_VEHICLE -/

section
variable {s : State} {v : Vehicle}

/-- A tare can be judged and is a multiple of the division. -/
def Vehicle.fits (s : State) (v : Vehicle) : Prop :=
  ∀ t, v.tare = some t → s.stc.damaged.calibration = false ∧ t % s.committed.division = 0

/-- The table with an entry put, and the answer (R90). -/
def putAnswer (replaced : Bool) (v : Vehicle) (s : State) : State :=
  answer .done (.vehiclePut replaced (insertVehicle v s.vtb.vehicles).length) (setVehicles (insertVehicle v s.vtb.vehicles) s)

/-- An entry whose tare fits is placed where there is room. -/
theorem putEntry_fits (h : v.fits s) :
    putEntry v s =
      (findVehicle v.tag s.vtb.vehicles).elim
        (if 256 ≤ s.vtb.vehicles.length then answer .tableFull (.count s.vtb.vehicles.length) s else putAnswer false v s)
        fun _ => putAnswer true v s := by
  refine (if_neg ?_).trans ((if_neg ?_).trans ?_)
  · cases ht : v.tare with
    | none => simp
    | some t => simp [State.calibrationDamaged, (h t ht).1]
  · cases ht : v.tare with
    | none => exact Bool.false_ne_true
    | some t => simp [State.tareFits, (h t ht).2]
  · cases findVehicle v.tag s.vtb.vehicles <;> rfl

/-- A tare cannot be judged. -/
theorem putEntry_damaged {t : Nat} (ht : v.tare = some t) (hd : s.stc.damaged.calibration = true) :
    putEntry v s = answer .noCalibration .nothing s :=
  if_pos (by rw [ht, State.calibrationDamaged, hd]; rfl)

/-- A tare off the division. -/
theorem putEntry_off {t : Nat} (ht : v.tare = some t) (hd : s.stc.damaged.calibration = false)
    (hoff : t % s.committed.division ≠ 0) : putEntry v s = answer .badValue .nothing s := by
  refine (if_neg (by rw [State.calibrationDamaged, hd, Bool.and_false]; decide)).trans (if_pos ?_)
  rw [ht]
  simpa [State.tareFits] using hoff

variable {tag : Tag} {cls present : Byte} {tare : BitVec 32} {allowed blocked : Byte}

/-- A directive whose bytes are all in range. -/
theorem putVehicle_read {c : Nat} {p a b : Bool} (hc : classOf cls = some c) (hp : presence present = some p)
    (ha : firstOrSecond allowed = some a) (hb : firstOrSecond blocked = some b) :
    putVehicle tag cls present tare allowed blocked s =
      if tag = 0 then answer .badValue .nothing s
      else if p && !(1 ≤ tare.toNat && tare.toNat ≤ 200000) then answer .badValue .nothing s
      else putEntry
        { tag := tag, cls := c, tare := if p then some tare.toNat else none, presetAllowed := a, blocked := b } s := by
  simp only [putVehicle, hc, hp, ha, hb]

/-- A field out of range (R91). -/
theorem putVehicle_bad
    (h : tag = 0 ∨ cls = 0 ∨ 16 < cls.toNat ∨ (present ≠ 0 ∧ present ≠ 1) ∨ firstOrSecond allowed = none ∨
      firstOrSecond blocked = none ∨ present = 1 ∧ (tare = 0 ∨ 200000 < tare.toNat)) :
    putVehicle tag cls present tare allowed blocked s = answer .badValue .nothing s := by
  cases hc : classOf cls with
  | none => simp only [putVehicle, hc]
  | some c =>
    cases hp : presence present with
    | none => simp only [putVehicle, hc, hp]
    | some p =>
      cases ha : firstOrSecond allowed with
      | none => simp only [putVehicle, hc, hp, ha]
      | some a =>
        cases hb : firstOrSecond blocked with
        | none => simp only [putVehicle, hc, hp, ha, hb]
        | some b =>
          rw [putVehicle_read hc hp ha hb]
          rcases h with h | h | h | h | h | h | ⟨h1, h⟩
          · exact if_pos h
          · cases (classOf_none (.inl h)).symm.trans hc
          · cases (classOf_none (.inr h)).symm.trans hc
          · cases (presence_iff.2 h).symm.trans hp
          · cases h.symm.trans ha
          · cases h.symm.trans hb
          · by_cases h0 : tag = 0
            · exact if_pos h0
            · refine (if_neg h0).trans (if_pos ?_)
              subst h1
              cases hp
              rcases h with h | h
              · rw [h]; rfl
              · simp [Nat.not_le.2 h]

end

/-- Settles O40: the rows of R90 and R91, and the table after a put. -/
theorem putVehicleByTable : Obligations.PutVehicleByTable := by
  refine ⟨fun s now ref tag cls present tare allowed blocked h => ?_, findVehicle_insertVehicle⟩
  intro code run
  let d : Directive := .putVehicle tag cls present tare allowed blocked
  have hrow : ∀ (st : Status) (r : Result) (t : State), t.ready →
      putVehicle tag cls present tare allowed blocked (queued now ref d s) = answer st r (queued now ref d t) →
      run = .next (replied now ref code st r t) := fun st r t ht hrun => arrive_replied h ht (d := d) rfl hrun
  refine ⟨fun hbad => hrow _ _ s h (putVehicle_bad hbad), ?_⟩
  intro a b h0 h1 h16 ha hb place
  have hread : ∀ p, presence present = some p → (p = true → 1 ≤ tare.toNat ∧ tare.toNat ≤ 200000) →
      putVehicle tag cls present tare allowed blocked (queued now ref d s) =
        putEntry ⟨tag, cls.toNat, if p then some tare.toNat else none, a, b⟩ (queued now ref d s) := fun p hp hok => by
    rw [putVehicle_read (nodeOf_some h1 h16) hp ha hb]
    refine (if_neg h0).trans (if_neg ?_)
    cases p with
    | false => exact Bool.false_ne_true
    | true => simp [hok rfl]
  have hplace : ∀ v : Vehicle, v.tag = tag → v.fits s →
      putVehicle tag cls present tare allowed blocked (queued now ref d s) = putEntry v (queued now ref d s) → place v := by
    intro v hv hfit hput
    have hentry := hput.trans (putEntry_fits (s := queued now ref d s) hfit)
    rw [hv] at hentry
    refine ⟨fun hin => ?_, fun hout hroom => ?_, fun hout hfull => ?_⟩
    · obtain ⟨x, hx⟩ := exists_findVehicle hin
      exact hrow _ _ (setVehicles _ s) (setVehicles_ready h _) (hentry.trans (by
        rw [show (queued now ref d s).vtb.vehicles = s.vtb.vehicles from rfl, hx]; rfl))
    · refine hrow _ _ (setVehicles _ s) (setVehicles_ready h _) (hentry.trans ?_)
      rw [show (queued now ref d s).vtb.vehicles = s.vtb.vehicles from rfl, findVehicle_eq_none hout]
      exact if_neg (Nat.not_le.2 hroom)
    · refine hrow _ _ s h (hentry.trans ?_)
      rw [show (queued now ref d s).vtb.vehicles = s.vtb.vehicles from rfl, findVehicle_eq_none hout]
      exact if_pos hfull
  refine ⟨fun hp => ?_, fun hp hlow hhigh => ⟨fun hd => ?_, fun hd hoff => ?_, fun hd hfit => ?_⟩⟩
  · subst hp
    exact hplace _ rfl (fun t ht => by cases ht) (hread false rfl (fun hf => by cases hf))
  all_goals
    subst hp
    have hput := hread true rfl fun _ => ⟨hlow, hhigh⟩
  · exact hrow _ _ s h (hput.trans (putEntry_damaged (s := queued now ref d s) rfl hd))
  · exact hrow _ _ s h (hput.trans (putEntry_off (s := queued now ref d s) rfl hd hoff))
  · exact hplace _ rfl (fun t ht => by cases ht; exact ⟨hd, hfit⟩) hput

/-! ## READ_VEHICLE -/

/-- A tag that is not listed. -/
theorem readVehicle_unlisted {s : State} {tag : Tag} (h0 : tag ≠ 0) (h : findVehicle tag s.vtb.vehicles = none) :
    readVehicle tag s =
      answer .notFound
        (.vehicle none none (holdIndex tag s.vtb.salt) (s.vtb.mask.getLsbD (holdIndex tag s.vtb.salt).toNat)
          s.vtb.vehicles.length) s := by
  rw [readVehicle, if_neg h0, h]
  rfl

/-- A listed tag with the check of its tare (R94). -/
theorem readVehicle_listed {s : State} {tag : Tag} {v : Vehicle} (h0 : tag ≠ 0) (h : findVehicle tag s.vtb.vehicles = some v) :
    readVehicle tag s =
      answer .done
        (.vehicle (some v)
          (if s.stc.damaged.calibration = true then none else v.tare.map fun t => decide (t % s.committed.division = 0))
          (holdIndex tag s.vtb.salt) (s.vtb.mask.getLsbD (holdIndex tag s.vtb.salt).toNat) s.vtb.vehicles.length) s := by
  have hfits : s.tareFits = fun t => decide (t % s.committed.division = 0) := funext fun t => beq_eq_decide ..
  rw [readVehicle, if_neg h0, h, ← hfits]
  rfl

/-- Settles O42. -/
theorem vehicleIsRead : Obligations.VehicleIsRead := by
  intro s now ref tag h index bit
  have hrow : ∀ {st : Status} {r : Result},
      readVehicle tag (queued now ref (.readVehicle tag) s) = answer st r (queued now ref (.readVehicle tag) s) →
      exec (.readVehicle now ref tag) s = .next (replied now ref 0x0E st r s) :=
    fun hrun => arrive_replied h h (d := .readVehicle tag) rfl hrun
  exact ⟨fun h0 => hrow (if_pos h0), fun h0 hnone => hrow (readVehicle_unlisted (s := queued now ref _ s) h0 hnone),
    fun v h0 hv => hrow (readVehicle_listed (s := queued now ref _ s) h0 hv)⟩

/-! ## The class table -/

/-- The fields of a filled class are in range (R97). -/
def classInRange (f : ClassFields) : Prop :=
  (∀ w ∈ [f.single, f.tandem, f.triple, f.quad, f.gross], 1 ≤ w.toNat ∧ w.toNat ≤ 200000) ∧
    1 ≤ f.minAxles.toNat ∧ f.minAxles.toNat ≤ f.maxAxles.toNat ∧ f.maxAxles.toNat ≤ 12

/-- The check of a class's fields is their range. -/
theorem classFields_inRange_iff (f : ClassFields) :
    (1 ≤ f.minAxles.toNat && f.minAxles.toNat ≤ 12 && (1 ≤ f.maxAxles.toNat && f.maxAxles.toNat ≤ 12) &&
      (1 ≤ f.single.toNat && f.single.toNat ≤ 200000) && (1 ≤ f.tandem.toNat && f.tandem.toNat ≤ 200000) &&
      (1 ≤ f.triple.toNat && f.triple.toNat ≤ 200000) && (1 ≤ f.quad.toNat && f.quad.toNat ≤ 200000) &&
      (1 ≤ f.gross.toNat && f.gross.toNat ≤ 200000) && decide (f.minAxles.toNat ≤ f.maxAxles.toNat)) = true ↔ classInRange f := by
  simp only [classInRange, Bool.and_eq_true, decide_eq_true_eq, List.forall_mem_cons, List.not_mem_nil, false_imp_iff,
    implies_true, and_true]
  omega

theorem entry_inRange {f : ClassFields} (h : classInRange f) :
    ClassFields.entry f = some ⟨f.minAxles.toNat, f.maxAxles.toNat, f.single.toNat, f.tandem.toNat, f.triple.toNat, f.quad.toNat, f.gross.toNat⟩ :=
  if_pos ((classFields_inRange_iff f).2 h)

theorem entry_outOfRange {f : ClassFields} (h : ¬ classInRange f) : ClassFields.entry f = none :=
  if_neg fun hc => h ((classFields_inRange_iff f).1 hc)

section
variable {s : State} {number filled : Byte} {f : ClassFields}

/-- The class table with entry n replaced (R98). -/
def setClass (n : Nat) (e : Option ClassEntry) (s : State) : State :=
  { s with vtb := { s.vtb with classes := s.vtb.classes.set (n - 1) e } }

theorem putClass_number (h : number.toNat = 0 ∨ 16 < number.toNat) : putClass number filled f s = answer .badValue .nothing s := by
  simp only [putClass, classOf, nodeOf_none h]

theorem putClass_mark (h0 : filled ≠ 0) (h1 : filled ≠ 1) : putClass number filled f s = answer .badValue .nothing s := by
  cases hc : classOf number <;> simp only [putClass, hc, presence_iff.2 ⟨h0, h1⟩]

variable (h1 : 1 ≤ number.toNat) (h16 : number.toNat ≤ 16)
include h1 h16

theorem putClass_empties :
    putClass number 0 f s =
      answer .done (.classWas (s.vtb.classes.getD (number.toNat - 1) none).isSome) (setClass number.toNat none s) := by
  simp only [putClass, classOf, nodeOf_some h1 h16]
  rfl

theorem putClass_fills {e : ClassEntry} (he : ClassFields.entry f = some e) :
    putClass number 1 f s =
      answer .done (.classWas (s.vtb.classes.getD (number.toNat - 1) none).isSome) (setClass number.toNat (some e) s) := by
  simp only [putClass, classOf, nodeOf_some h1 h16, he, show presence 1 = some true from rfl, if_true]
  rfl

theorem putClass_bad (he : ClassFields.entry f = none) : putClass number 1 f s = answer .badValue .nothing s := by
  simp only [putClass, classOf, nodeOf_some h1 h16, he, show presence 1 = some true from rfl, if_true]

end

/-- Settles O43. -/
theorem classesArePutAndRead : Obligations.ClassesArePutAndRead := by
  intro s now ref number filled f h n entry limitsOk axlesOk put
  have hput : ∀ {st : Status} {r : Result} {t : State}, t.ready →
      putClass number filled f (queued now ref (.putClass number filled f) s) =
        answer st r (queued now ref (.putClass number filled f) t) →
      exec (.putClass now ref number filled f) s = .next (replied now ref 0x0F st r t) :=
    fun ht hrun => arrive_replied h ht (d := .putClass number filled f) rfl hrun
  have hread : ∀ {st : Status} {r : Result},
      readClass number (queued now ref (.readClass number) s) = answer st r (queued now ref (.readClass number) s) →
      exec (.readClass now ref number) s = .next (replied now ref 0x10 st r s) :=
    fun hrun => arrive_replied h h (d := .readClass number) rfl hrun
  refine ⟨fun hn => ⟨hput h (putClass_number hn), hread ?_⟩, fun h1 h16 h0 => ?_, fun h1 h16 hf hl ha => ?_,
    fun h1 h16 h0 hbad => ?_, fun h1 h16 => hread ?_⟩
  · simp only [readClass, classOf, nodeOf_none hn]
  · subst h0
    exact hput (t := setClass n none s) h (putClass_empties h1 h16)
  · subst hf
    exact hput (t := setClass n (some _) s) h (putClass_fills h1 h16 (entry_inRange ⟨hl, ha⟩))
  · by_cases hf : filled = 1
    · subst hf
      refine hput h (putClass_bad h1 h16 (entry_outOfRange fun hin => ?_))
      rcases hbad with hn | hn | hn
      · exact hn rfl
      · exact hn hin.1
      · exact hn hin.2
    · exact hput h (putClass_mark h0 hf)
  · simp only [readClass, classOf, nodeOf_some h1 h16]
    rfl

end Sys2Proof.Machine
end

section
/-! SUPPORT. The directives of the Passage Unit and the Ticket Unit: RELEASE_TICKET and PURGE_TRANSACTION (R131, R148), RELEASE_HOLD
(R121), ABANDON (R125) and IDENTIFY (R117, R118), with the grouping and the verdict of a final axle list (R82 to R86). -/

namespace Sys2Proof.Machine

/-! ## RELEASE_TICKET and PURGE_TRANSACTION -/

section
variable {s : State} {number : BitVec 32} {tag : Tag}

theorem releaseTicket_fault (h0 : number ≠ 0) (hf : s.stc.fault = true) :
    releaseTicket number s = answer .storeFault .nothing s := (if_neg h0).trans (if_pos hf)

theorem releaseTicket_unposted (h0 : number ≠ 0) (hf : s.stc.fault = false) (hn : s.stc.store.ticket.slotOf number = none) :
    releaseTicket number s = answer .notFound .nothing s :=
  (if_neg h0).trans ((if_neg (by rw [hf]; decide)).trans (if_pos (by rw [hn]; rfl)))

theorem releaseTicket_handed (h0 : number ≠ 0) (hf : s.stc.fault = false) (hn : s.stc.store.ticket.slotOf number ≠ none) :
    releaseTicket number s = holdQueue { s with stc := { s.stc with queue := s.stc.queue ++ [.release number] } } := by
  refine (if_neg h0).trans ((if_neg (by rw [hf]; decide)).trans ((if_neg (by simpa using hn)).trans ?_))
  rw [handUpdate_clear _ hf]

theorem purgeTransaction_fault (h0 : tag ≠ 0) (hf : s.stc.fault = true) :
    purgeTransaction tag s = answer .storeFault .nothing s := (if_neg h0).trans (if_pos hf)

theorem purgeTransaction_closed (h0 : tag ≠ 0) (hf : s.stc.fault = false)
    (hn : ¬ ∃ e ∈ s.stc.store.transaction.table, e.tag = tag) : purgeTransaction tag s = answer .notFound .nothing s := by
  refine (if_neg h0).trans ((if_neg (by rw [hf]; decide)).trans (if_pos ?_))
  rw [Option.isNone_iff_eq_none]
  exact findOpen_eq_none fun e he ht => hn ⟨e, he, ht⟩

/-- An open entry is not missing. -/
theorem findOpen_not_isNone (h : ∃ e ∈ s.stc.store.transaction.table, e.tag = tag) :
    ¬ (findOpen tag s.stc.store.transaction.table).isNone = true := by
  rw [← Option.not_isSome, findOpen_isSome_iff.2 h]
  decide

/-- A tag is bound to the passage. -/
theorem tagBound_iff : s.tagBound tag = true ↔ ∃ p i, s.psu.passage = some p ∧ p.identity = some i ∧ i.tag = tag := by
  rw [State.tagBound]
  cases hp : s.psu.passage with
  | none => simp
  | some p => cases hi : p.identity <;> simp [hi]

theorem purgeTransaction_bound (h0 : tag ≠ 0) (hf : s.stc.fault = false)
    (ho : ∃ e ∈ s.stc.store.transaction.table, e.tag = tag) (hb : s.tagBound tag = true) :
    purgeTransaction tag s = answer .busy .nothing s :=
  (if_neg h0).trans ((if_neg (by rw [hf]; decide)).trans ((if_neg (findOpen_not_isNone ho)).trans (if_pos hb)))

theorem purgeTransaction_handed (h0 : tag ≠ 0) (hf : s.stc.fault = false)
    (ho : ∃ e ∈ s.stc.store.transaction.table, e.tag = tag) (hb : ¬ s.tagBound tag = true) :
    purgeTransaction tag s = holdQueue { s with stc := { s.stc with queue := s.stc.queue ++ [.purge tag] } } := by
  refine (if_neg h0).trans ((if_neg (by rw [hf]; decide)).trans ((if_neg (findOpen_not_isNone ho)).trans ((if_neg hb).trans ?_)))
  rw [handUpdate_clear _ hf]

end

/-- Settles O48. -/
theorem releaseAndPurgeAreHanded : Obligations.ReleaseAndPurgeAreHanded := by
  intro s now ref h
  constructor
  · intro number posted
    have hslot : s.stc.store.ticket.slotOf number = none ↔ ¬ posted := by
      rw [slotOf_eq_none_iff, not_exists]
      exact forall_congr' fun t => not_and.symm
    have hrow : ∀ {n st}, releaseTicket n (queued now ref (.releaseTicket n) s) = answer st .nothing (queued now ref (.releaseTicket n) s) →
        exec (.releaseTicket now ref n) s = .next (replied now ref 0x15 st .nothing s) :=
      fun {n _} hrun => arrive_replied h h (d := .releaseTicket n) rfl hrun
    refine ⟨hrow (if_pos rfl), fun h0 hf => hrow (releaseTicket_fault (s := queued now ref _ s) h0 hf),
      fun h0 hf hn => hrow (releaseTicket_unposted (s := queued now ref _ s) h0 hf (hslot.2 hn)), fun h0 hf hp => ?_⟩
    refine arrive_holding h (d := .releaseTicket number) rfl ?_
      (releaseTicket_handed (s := queued now ref (.releaseTicket number) s) h0 hf fun hn => hslot.1 hn hp)
    rfl
  · intro tag open_ bound
    have hrow : ∀ {x st}, purgeTransaction x (queued now ref (.purgeTransaction x) s) =
          answer st .nothing (queued now ref (.purgeTransaction x) s) →
        exec (.purgeTransaction now ref x) s = .next (replied now ref 0x18 st .nothing s) :=
      fun {x _} hrun => arrive_replied h h (d := .purgeTransaction x) rfl hrun
    refine ⟨hrow (if_pos rfl), fun h0 hf => hrow (purgeTransaction_fault (s := queued now ref _ s) h0 hf),
      fun h0 hf hn => hrow (purgeTransaction_closed (s := queued now ref _ s) h0 hf hn),
      fun h0 hf ho hb => hrow (purgeTransaction_bound (s := queued now ref _ s) h0 hf ho (tagBound_iff.2 hb)),
      fun h0 hf ho hb => ?_⟩
    refine arrive_holding h (d := .purgeTransaction tag) rfl ?_
      (purgeTransaction_handed (s := queued now ref (.purgeTransaction tag) s) h0 hf ho fun hb' => hb (tagBound_iff.1 hb'))
    rfl

/-! ## A directive answered before what follows -/

/-- A directive whose reply stands before the rest of its effect (log 10). -/
theorem arrive_then {g : State → State} (hg : ∀ x, refreshLights (g x) = g (refreshLights x)) {s t u : State} (hs : s.ready)
    (ht : t.ready) {now : Stamp} {ref : Byte} {d : Directive} {st : Status} {r : Result} (hw : d.wellFormed = true)
    (hlit : refreshLights u = queued now ref d t) (hrun : runDirective d (queued now ref d s) = g (answer st r u)) :
    arrive now ref d s = .next (g (replied now ref d.code st r t)) := by
  have hq : (queued now ref d t).tli.directives = [⟨ref, d⟩] := rfl
  rw [arrive_ready hs now ref hw, hrun, hg, ← refreshLights_answer, hlit, answer_only st r hq, queued_unqueued ht]
  rfl

/-! ## ABANDON -/

theorem abandon_other {s : State} {p : Passage} {number : BitVec 16} (hp : s.psu.passage = some p) (hn : p.number ≠ number) :
    abandon number s = answer .noPassage .nothing s := by
  rw [abandon, hp]
  exact if_pos (by simpa using hn)

/-- ABANDON of the passage that exists, by its state. -/
theorem abandon_named {s : State} {p : Passage} {number : BitVec 16} (hp : s.psu.passage = some p) (hn : p.number = number) :
    (p.state = .issuing → abandon number s = answer .busy .nothing s) ∧
    (p.state ∈ [.done, .leaving, .clearing] → abandon number s = answer .wrongState .nothing s) ∧
    (p.state ∈ [.arriving, .onBridge, .captured] →
      abandon number s = toClearing .abandoned none p (answer .done .nothing s)) := by
  have hsame : ¬ (p.number != number) = true := by simp [hn]
  simp only [List.mem_cons, List.not_mem_nil, or_false]
  refine ⟨fun ha => ?_, ?_, ?_⟩
  · rw [abandon, hp]
    refine (if_neg hsame).trans ?_
    rw [ha]
  · rintro (ha | ha | ha)
    all_goals
      rw [abandon, hp]
      refine (if_neg hsame).trans ?_
      rw [ha]
  · rintro (ha | ha | ha)
    all_goals
      rw [abandon, hp]
      refine (if_neg hsame).trans ?_
      rw [ha]

/-- An answer is no part of what ends CLEARING. -/
theorem clearedOut_answer {st : Status} {r : Result} {s : State} : (answer st r s).clearedOut ↔ s.clearedOut := by
  rw [answer_eq]
  exact Iff.rfl

/-- An answer and the end of a passage commute. -/
theorem vacated_answer {st : Status} {r : Result} {s : State} : (answer st r s).vacated = answer st r s.vacated := by
  cases hq : s.tli.directives with
  | nil => simp only [answer, hq, State.vacated]
  | cons q rest => simp only [answer, hq, State.vacated, replyTo, offer]

/-- Settles O47. -/
theorem passageIsAbandoned : Obligations.PassageIsAbandoned := by
  intro s now ref number h code run
  have hrow : ∀ {st : Status}, abandon number (queued now ref (.abandon number) s) =
      answer st .nothing (queued now ref (.abandon number) s) → run = .next (replied now ref code st .nothing s) :=
    fun hrun => arrive_replied h h (d := .abandon number) rfl hrun
  refine ⟨fun hp => hrow ?_, fun p hp => ⟨fun hn => hrow (abandon_other (s := queued now ref _ s) hp hn), fun hn => ?_,
    fun hn => ?_, fun hn ha => ?_⟩⟩
  · rw [abandon, show (queued now ref (.abandon number) s).psu.passage = none from hp]
  · exact fun ha => hrow ((abandon_named (s := queued now ref _ s) hp hn).1 ha)
  · exact fun ha => hrow ((abandon_named (s := queued now ref _ s) hp hn).2.1 ha)
  · have hrun := (abandon_named (s := queued now ref (.abandon number) s) hp hn).2.2 ha
    intro p' ended cleared
    have hover : State.clearedOut (answer .done .nothing (queued now ref (.abandon number) s)) ↔ ended :=
      clearedOut_answer.trans (and_congr_right fun _ => and_congr_right fun _ => Int.not_le)
    refine ⟨fun hn => ?_, fun he => ?_⟩
    · have haxm : (if p.state = .arriving ∨ p.state = .onBridge then (endChecking s).axm else s.axm) =
          if p.state = .captured then s.axm else (endChecking s).axm := by
        simp only [List.mem_cons, List.not_mem_nil, or_false] at ha
        rcases ha with ha | ha | ha <;> rw [ha] <;> rfl
      refine arrive_then (g := report (some p.state) (some .clearing) .abandoned none p')
        (u := State.clearingFrom p (queued now ref (.abandon number) s)) (fun _ => rfl) h
        (t := { s with
          psu := { s.psu with passage := some p', captureTimer := none }
          axm := if p.state = .captured then s.axm else (endChecking s).axm }) h rfl ?_
        (hrun.trans (toClearing_stays fun hc => hn (hover.1 hc)))
      rw [← haxm]
      rfl
    · have hreplied := hrun.trans (toClearing_over (hover.2 he))
      rw [vacated_answer] at hreplied
      have hdone := arrive_then (g := fun x => report (some .clearing) none .cleared none p'
          (report (some p.state) (some .clearing) .abandoned none p' x))
        (u := State.vacated (queued now ref (.abandon number) s)) (fun _ => rfl) h (t := s.vacated) h
        (d := .abandon number) rfl (by rfl) hreplied
      exact hdone

/-! ## RELEASE_HOLD -/

theorem reasonOf_none {b : Byte} (h : b = 0 ∨ 9 < b.toNat) : reasonOf b = none := by
  rcases h with h | h
  · exact if_pos (by simpa using h)
  · refine (if_neg ?_).trans (List.getElem?_eq_none ?_)
    · rw [beq_iff_eq]
      rintro rfl
      exact absurd h (by decide)
    · exact show 9 ≤ b.toNat - 1 by omega

theorem isWait_iff {r : HoldReason} : r.isWait = true ↔ r ∈ [.unstable, .tableFull, .ringBlocked, .notVerified, .storeFault] := by
  cases r <;> decide

theorem isWait_eq_false {r : HoldReason} (h : r ∈ [.unlisted, .blocked, .probe, .overload]) : r.isWait = false := by
  simp only [List.mem_cons, List.not_mem_nil, or_false] at h
  rcases h with rfl | rfl | rfl | rfl <;> rfl

theorem isPreTicket_iff {r : HoldReason} : r.isPreTicket = true ↔ r ∈ [.unlisted, .blocked] := by
  cases r <;> decide

/-- A reason that has left the set. -/
theorem not_mem_dropHold (r : HoldReason) (holds : List HoldReason) : r ∉ dropHold r holds := by
  simp [dropHold]

theorem mem_addHold {r w : HoldReason} {holds : List HoldReason} (h : r ∈ addHold w holds) : r = w ∨ r ∈ holds := by
  simpa [addHold] using (List.mem_filter.1 h).2

/-- The waits of a refused request (R120, R122). -/
theorem requestRefusal_isWait {s : State} {type : TicketType} {w : HoldReason} (h : requestRefusal s type = some w) :
    w.isWait = true := by
  simp only [requestRefusal] at h
  split_ifs at h <;> cases h <;> rfl

theorem requestOutcome_isWait {s : State} {p : Passage} {w : HoldReason} (h : requestOutcome s p = .refused w) :
    w.isWait = true := by
  by_cases hm : requestMade s p = true
  · obtain ⟨i, hi⟩ := Option.isSome_iff_exists.1 (requestMade_iff.1 hm).2
    cases hr : requestRefusal s (ticketType s i) with
    | none =>
      rw [requestOutcome_accepted hi hm hr] at h
      cases h
    | some r =>
      rw [requestOutcome_refused hi hm hr] at h
      cases h
      exact requestRefusal_isWait hr
  · rw [requestOutcome_notMade hm] at h
    cases h

section
variable {s : State} {p : Passage} {reason : Byte} {r : HoldReason} {number : BitVec 16}

theorem releaseHold_none (hr : reasonOf reason = some r) (hp : s.psu.passage = none) :
    releaseHold number reason s = answer .noPassage .nothing s := by
  simp only [releaseHold, hr, hp]

theorem releaseHold_other (hr : reasonOf reason = some r) (hp : s.psu.passage = some p) (hn : p.number ≠ number) :
    releaseHold number reason s = answer .noPassage .nothing s := by
  simp only [releaseHold, hr, hp]
  exact if_pos (by simpa using hn)

/-- RELEASE_HOLD of the passage that exists. -/
theorem releaseHold_named (hr : reasonOf reason = some r) (hp : s.psu.passage = some p) (hn : p.number = number) :
    releaseHold number reason s =
      if r.isWait then answer .badValue .nothing s
      else if !p.holds.contains r then answer .notFound .nothing s else releaseFrom r p s := by
  simp only [releaseHold, hr, hp]
  exact if_neg (by simp [hn])

/-- The passage with a hold released. -/
def Passage.without (r : HoldReason) (p : Passage) : Passage := { p with holds := dropHold r p.holds }

/-- A release that leads to no request. -/
theorem releaseFrom_reports (h : r.isPreTicket = false ∨ p.state ≠ .captured) :
    releaseFrom r p s =
      report (some p.state) (some p.state) .holdChange none (p.without r)
        (answer .done (.holds (p.without r).holds) (setPassage (p.without r) s)) := by
  cases hpre : r.isPreTicket with
  | false => simp only [releaseFrom, hpre, Bool.false_eq_true, if_false, Passage.without]
  | true =>
    have hnot : requestOutcome (answer .done (.holds (p.without r).holds) (setPassage (p.without r) s)) (p.without r) = .notMade :=
      requestOutcome_notMade fun hm => h.elim (fun hf => Bool.false_ne_true (hf.symm.trans hpre)) fun hs =>
        hs (requestMade_iff.1 hm).1.1
    refine (if_pos hpre).trans ?_
    simp only [Passage.without] at hnot ⊢
    rw [judgeAfterRemoval, hnot, answer_eq .done (.holds (dropHold r p.holds))]
    rfl

end

/-- The passage a judgement of the request leaves (R121, R122). -/
theorem judgeAfterRemoval_passage (s : State) (p : Passage) (hp : s.psu.passage = some p) :
    ∃ q, (judgeAfterRemoval p s).psu.passage = some q ∧ q.number = p.number ∧
      ∀ r, r.isWait = false → r ∉ p.holds → r ∉ q.holds := by
  cases ho : requestOutcome s p with
  | accepted =>
    rw [judgeAfterRemoval, ho]
    dsimp only
    rw [issueTicket]
    split
    · exact ⟨_, rfl, rfl, fun r _ hr => hr⟩
    · exact ⟨p, hp, rfl, fun r _ hr => hr⟩
  | notMade =>
    rw [judgeAfterRemoval, ho]
    exact ⟨p, rfl, rfl, fun r _ hr => hr⟩
  | refused w =>
    rw [judgeAfterRemoval, ho]
    refine ⟨{ p with holds := addHold w p.holds }, rfl, rfl, fun r hw hr hm => ?_⟩
    rcases mem_addHold hm with h | h
    · rw [h, requestOutcome_isWait ho] at hw
      cases hw
    · exact hr h

/-- The passage a released pre-ticket hold leaves (R121). -/
theorem releaseFrom_passage (s : State) {p : Passage} {r : HoldReason} (h : r.isPreTicket = true) (hw : r.isWait = false) :
    ∃ q, (releaseFrom r p s).psu.passage = some q ∧ q.number = p.number ∧ r ∉ q.holds := by
  have hset : (answer .done (.holds (p.without r).holds) (setPassage (p.without r) s)).psu.passage = some (p.without r) := by
    rw [answer_eq]
    rfl
  obtain ⟨q, hq, hn, hr⟩ := judgeAfterRemoval_passage _ _ hset
  rw [releaseFrom, if_pos h]
  exact ⟨q, hq, hn, hr r hw (not_mem_dropHold r p.holds)⟩

/-- Settles O46. -/
theorem holdIsReleased : Obligations.HoldIsReleased := by
  intro s now ref number reason h code run
  have hrow : ∀ {st : Status}, releaseHold number reason (queued now ref (.releaseHold number reason) s) =
      answer st .nothing (queued now ref (.releaseHold number reason) s) → run = .next (replied now ref code st .nothing s) :=
    fun hrun => arrive_replied h h (d := .releaseHold number reason) rfl hrun
  refine ⟨fun hb => hrow ?_, fun r hr => ⟨fun hp => hrow (releaseHold_none (s := queued now ref _ s) hr hp), fun p hp => ?_⟩⟩
  · simp only [releaseHold, reasonOf_none hb]
  have hnamed := fun hn => releaseHold_named (s := queued now ref (.releaseHold number reason) s) (number := number) hr hp hn
  refine ⟨fun hn => hrow (releaseHold_other (s := queued now ref _ s) hr hp hn), fun hn hw => hrow ((hnamed hn).trans
    (if_pos (isWait_iff.2 hw))), fun hn hw hout => hrow ((hnamed hn).trans ?_), ?_⟩
  · exact (if_neg (by rw [isWait_eq_false hw]; decide)).trans (if_pos (by simpa using hout))
  intro p'
  have hdone : ∀ hn : p.number = number, r.isWait = false → r ∈ p.holds →
      releaseHold number reason (queued now ref (.releaseHold number reason) s) =
        releaseFrom r p (queued now ref (.releaseHold number reason) s) := fun hn hw hin =>
    (hnamed hn).trans ((if_neg (by rw [hw]; decide)).trans (if_neg (by simpa using hin)))
  refine ⟨fun hn hw hin => ?_, fun hn hw hin => ?_⟩
  · simp only [List.mem_cons, List.not_mem_nil, or_false] at hw
    have hwait : r.isWait = false := by rcases hw with (rfl | rfl) | ⟨rfl | rfl, -⟩ <;> rfl
    have hreports : r.isPreTicket = false ∨ p.state ≠ .captured := by
      rcases hw with (rfl | rfl) | ⟨-, hs⟩
      · exact .inl rfl
      · exact .inl rfl
      · exact .inr hs
    have hreplied := (hdone hn hwait hin).trans (releaseFrom_reports hreports)
    have hrun := arrive_then (g := report (some p.state) (some p.state) .holdChange none p')
      (u := setPassage p' (queued now ref (.releaseHold number reason) s)) (fun _ => rfl) h
      (t := { s with psu := { s.psu with passage := some p' } }) h (d := .releaseHold number reason) rfl (by rfl) hreplied
    exact hrun
  · have hwait : r.isWait = false := by
      simp only [List.mem_cons, List.not_mem_nil, or_false] at hw
      rcases hw with rfl | rfl <;> rfl
    obtain ⟨q, hq, hnum, hout⟩ :=
      releaseFrom_passage (queued now ref (.releaseHold number reason) s) (p := p) (isPreTicket_iff.2 hw) hwait
    refine ⟨_, q, arrive_ready h now ref (d := .releaseHold number reason) rfl, ?_, hnum, hout⟩
    exact (congrArg (fun x : State => x.psu.passage) (hdone hn hwait hin)).trans hq

/-! ## IDENTIFY -/

section
variable {s : State} {p : Passage} {tag : Tag} {kind onePass : Byte} {k : TransactionKind} {o : Bool}

theorem identify_bad (h : tag = 0 ∨ kindOf kind = none ∨ firstOrSecond onePass = none) :
    identify tag kind onePass s = answer .badValue .nothing s := by
  cases hk : kindOf kind with
  | none => simp only [identify, hk]
  | some k =>
    cases ho : firstOrSecond onePass with
    | none => simp only [identify, hk, ho]
    | some o =>
      have h0 : tag = 0 := by simpa [hk, ho] using h
      simp only [identify, hk, ho, h0, if_true]

/-- IDENTIFY with a tag and two bytes in range, by the passage that exists. -/
theorem identify_none (h0 : tag ≠ 0) (hk : kindOf kind = some k) (ho : firstOrSecond onePass = some o)
    (hp : s.psu.passage = none) : identify tag kind onePass s = answer .noPassage .nothing s := by
  simp only [identify, hk, ho, h0, if_false, hp]

theorem identify_passage (h0 : tag ≠ 0) (hk : kindOf kind = some k) (ho : firstOrSecond onePass = some o)
    (hp : s.psu.passage = some p) :
    identify tag kind onePass s =
      if p.identity.isSome then answer .alreadyBound .nothing s
      else if p.state == .arriving || p.state == .onBridge || p.state == .captured then bindPassage tag k o p s
      else answer .wrongState .nothing s := by
  simp only [identify, hk, ho, h0, if_false, hp]

/-- The identity a lookup binds (R118). -/
def identityOf (s : State) (tag : Tag) (k : TransactionKind) (o : Bool) : Identity :=
  let l := lookupTag s tag
  { tag := tag, kind := k, onePass := o, listed := l.listed, cls := l.cls, tare := l.tare
    presetAllowed := l.presetAllowed, tareOffDivision := l.tareOffDivision }

/-- The passage as binding leaves it, where no verdict is due. -/
theorem bound_unjudged (hc : p.capture = none) :
    p.bound s tag k o =
      { p with identity := some (identityOf s tag k o), holds := bindingHolds s (lookupTag s tag) p.holds } := by
  rw [Passage.bound, Passage.judged, verdictOf]
  dsimp only
  rw [hc]
  rfl

/-- What a verdict leaves of a passage. -/
theorem judged_keeps : (p.judged s).number = p.number ∧ (p.judged s).identity = p.identity ∧ (p.judged s).state = p.state ∧
    (p.judged s).axles = (verdictOf s p).or p.axles := by
  cases hv : verdictOf s p with
  | none => simp only [Passage.judged, hv, Option.none_or, and_self]
  | some r => simp only [Passage.judged, hv, Option.some_or, and_self]

/-- The passage a binding leaves (R118, R119). -/
theorem bindPassage_passage :
    ∃ q, (bindPassage tag k o p s).psu.passage = some q ∧ q.number = p.number ∧ q.identity = some (identityOf s tag k o) ∧
      q.axles = (verdictOf s { p with identity := some (identityOf s tag k o) }).or p.axles := by
  obtain ⟨hnum, hid, -, hax⟩ := judged_keeps (s := s)
    (p := { p with identity := some (identityOf s tag k o), holds := bindingHolds s (lookupTag s tag) p.holds })
  have hset : (answer .done (.bound (lookupTag s tag) (p.bound s tag k o).holds (p.bound s tag k o).number)
      (keepResult (p.bound s tag k o).axles (setPassage (p.bound s tag k o) s))).psu.passage = some (p.bound s tag k o) := by
    rw [answer_eq]
    rfl
  simp only [bindPassage]
  split
  · rw [issueTicket]
    split
    · exact ⟨_, rfl, hnum, hid, hax⟩
    · exact ⟨_, hset, hnum, hid, hax⟩
  · exact ⟨_, hset, hnum, hid, hax⟩
  · exact ⟨_, rfl, hnum, hid, hax⟩

/-- A binding before the capture (R117). -/
theorem bindPassage_early (ha : p.state = .arriving ∨ p.state = .onBridge) (hc : p.capture = none) (hx : p.axles = none) :
    bindPassage tag k o p s =
      let q : Passage := { p with identity := some (identityOf s tag k o), holds := bindingHolds s (lookupTag s tag) p.holds }
      report (some p.state) (some p.state) .bound none q
        (answer .done (.bound (lookupTag s tag) q.holds p.number) (setPassage q s)) := by
  have hnot : ∀ x i holds, requestOutcome x { p with identity := some i, holds := holds } = .notMade := fun x i holds =>
    requestOutcome_notMade fun hm => by
      have hs : p.state = .captured := (requestMade_iff.1 hm).1.1
      rcases ha with ha | ha <;> rw [ha] at hs <;> cases hs
  simp only [bindPassage, bound_unjudged hc, hnot]
  rw [hx]
  rfl

/-- The holds a binding adds, as propositions (R118). -/
theorem bindingHolds_eq (l : Lookup) (holds : List HoldReason) :
    bindingHolds s l holds =
      let unlisted := if l.listed = false ∧ s.rnc.site.admitUnlisted = false then addHold .unlisted holds else holds
      let blocked := if l.listed = true ∧ l.blocked = true then addHold .blocked unlisted else unlisted
      if l.probe = true then addHold .probe blocked else blocked := by
  cases hl : l.listed <;> cases hadmit : s.rnc.site.admitUnlisted <;> cases hb : l.blocked <;>
    simp [bindingHolds, hl, hadmit, hb]

end

/-! ## The axle result -/

section
variable {gap : Nat}

/-- Grouping changes nothing of an axle but its group (R82). -/
theorem numberGroups_keeps (current : Nat) (list : List AxleRecord) :
    ((numberGroups gap current list).map fun r => { r with group := none }) = list.map fun r => { r with group := none } := by
  induction list generalizing current with
  | nil => rfl
  | cons r rest ih => simp only [numberGroups, List.map_cons, ih]

/-- An axle joins the group before it where its spacing is short (R82). -/
def AxleRecord.joins (gap : Nat) (r : AxleRecord) : Prop := ∃ d, r.spacing = some d ∧ d < gap

/-- The list from its first axle on. -/
theorem numberGroups_cons {current n : Nat} {r : AxleRecord} {rest : List AxleRecord}
    (hn : (current ≠ 0 ∧ r.joins gap → n = current) ∧ (¬ (current ≠ 0 ∧ r.joins gap) → n = current + 1)) :
    numberGroups gap current (r :: rest) = { r with group := some n } :: numberGroups gap n rest := by
  have hjoins : ∀ b : Bool, (b = true ↔ current ≠ 0 ∧ r.joins gap) → (if b then current else current + 1) = n := by
    intro b hb
    cases b with
    | true => exact (hn.1 (hb.1 rfl)).symm
    | false => exact (hn.2 fun h => Bool.false_ne_true (hb.2 h)).symm
  simp only [numberGroups]
  rw [hjoins]
  cases hs : r.spacing <;> simp [AxleRecord.joins, hs]

/-- The first axle's group, never 0. -/
theorem numberGroups_first (gap current : Nat) (r : AxleRecord) :
    ∃ n, n ≠ 0 ∧ ∀ rest, numberGroups gap current (r :: rest) = { r with group := some n } :: numberGroups gap n rest := by
  by_cases h : current ≠ 0 ∧ r.joins gap
  · exact ⟨current, h.1, fun rest => numberGroups_cons ⟨fun _ => rfl, fun hn => absurd h hn⟩⟩
  · exact ⟨current + 1, by omega, fun rest => numberGroups_cons ⟨fun hj => absurd hj h, fun _ => rfl⟩⟩

/-- The group of an axle against the group of the axle before it (R82). -/
theorem numberGroups_next {list : List AxleRecord} {current k : Nat} {a b : AxleRecord}
    (ha : (numberGroups gap current list)[k]? = some a) (hb : (numberGroups gap current list)[k + 1]? = some b) :
    (b.joins gap → b.group = a.group) ∧ (¬ b.joins gap → b.group = a.group.map fun n => n + 1) := by
  induction list generalizing current k with
  | nil => cases ha
  | cons r rest ih =>
    obtain ⟨n, hn0, hcons⟩ := numberGroups_first gap current r
    rw [hcons rest] at ha hb
    cases k with
    | succ k => exact ih ha hb
    | zero =>
      cases ha
      cases rest with
      | nil => cases hb
      | cons x rest =>
        by_cases hx : x.joins gap
        · rw [numberGroups_cons (n := n) ⟨fun _ => rfl, fun h => absurd ⟨hn0, hx⟩ h⟩] at hb
          cases hb
          exact ⟨fun _ => rfl, fun h => absurd hx h⟩
        · rw [numberGroups_cons (n := n + 1) ⟨fun h => absurd h.2 hx, fun _ => rfl⟩] at hb
          cases hb
          exact ⟨fun h => absurd h hx, fun _ => rfl⟩

end

/-! ### A group's judgement (R83) -/

theorem validLoad_none_iff {r : AxleRecord} : r.validLoad = none ↔ r.flags.fast = true ∨ r.load = none := by
  cases hf : r.flags.fast <;> simp [AxleRecord.validLoad, hf]

theorem validLoad_slow {r : AxleRecord} (h : r.flags.fast = false) : r.validLoad = r.load := by
  simp [AxleRecord.validLoad, h]

/-- The sum of loads, load by load. -/
theorem sumLoads_cons (x : Option Int) (rest : List (Option Int)) :
    sumLoads (x :: rest) = x.bind fun a => (sumLoads rest).map fun b => a + b := by
  cases x with
  | none => rfl
  | some a => cases h : sumLoads rest <;> simp [sumLoads, h]

/-- The sum of loads that are all valid. -/
theorem sumLoads_valid {axles : List AxleRecord} (h : ∀ r ∈ axles, r.flags.fast = false ∧ r.load ≠ none) :
    sumLoads (axles.map (·.validLoad)) = some (axles.filterMap fun r => r.load).sum := by
  induction axles with
  | nil => rfl
  | cons r rest ih =>
    obtain ⟨hslow, hload⟩ := h r List.mem_cons_self
    obtain ⟨x, hx⟩ := Option.ne_none_iff_exists'.1 hload
    rw [List.map_cons, sumLoads_cons, ih fun r hr => h r (List.mem_cons_of_mem _ hr), validLoad_slow hslow, hx,
      List.filterMap_cons_some hx, List.sum_cons]
    rfl

/-- One load that is not valid leaves no sum. -/
theorem sumLoads_missing {loads : List (Option Int)} (h : none ∈ loads) : sumLoads loads = none := by
  induction loads with
  | nil => cases h
  | cons x rest ih =>
    rw [sumLoads_cons]
    cases x with
    | none => rfl
    | some a => rw [ih (by simpa using h)]; rfl

/-- A group is unrated where a load or the limit is missing. -/
theorem judgeGroup_unrated {entry : Option ClassEntry} {axles : List AxleRecord}
    (h : entry.bind (·.limit (groupKind axles.length)) = none ∨ sumLoads (axles.map (·.validLoad)) = none) :
    judgeGroup entry axles =
      { kind := groupKind axles.length, axles := axles.filterMap (·.index), load := none, excess := none, verdict := .unrated } := by
  simp only [judgeGroup]
  split
  · next limit load hlimit hload => rcases h with h | h <;> simp_all
  · rfl

/-- A group judged by its limit. -/
theorem judgeGroup_rated {entry : Option ClassEntry} {axles : List AxleRecord} {limit : Nat} {load : Int}
    (hlimit : entry.bind (·.limit (groupKind axles.length)) = some limit) (hload : sumLoads (axles.map (·.validLoad)) = some load) :
    judgeGroup entry axles =
      { kind := groupKind axles.length, axles := axles.filterMap (·.index), load := some load, excess := some (load - limit)
        verdict := if 0 < load - limit then .exceeded else .ok } := by
  simp only [judgeGroup, hlimit, hload]

/-- The kind and the limit of a group of one to four axles. -/
theorem groupKind_limit (c : ClassEntry) {n : Nat} (h1 : 1 ≤ n) (h4 : n ≤ 4) :
    groupKind n = [GroupKind.single, .tandem, .triple, .quad].getD (n - 1) .unrated ∧
      c.limit (groupKind n) = some ([c.single, c.tandem, c.triple, c.quad].getD (n - 1) 0) := by
  interval_cases n <;> exact ⟨rfl, rfl⟩

theorem groupKind_large {n : Nat} (h : 4 < n) : groupKind n = .unrated := by
  simp only [groupKind, beq_iff_eq]
  rw [if_neg (by omega), if_neg (by omega), if_neg (by omega), if_neg (by omega)]

/-! ### The verdict (R84) -/

theorem passageVerdict_exceeded_iff {groups : List AxleGroup} {overflow noAxles : Bool} :
    passageVerdict groups overflow noAxles = .exceeded ↔ ∃ g ∈ groups, g.verdict = .exceeded := by
  simp only [passageVerdict]
  split_ifs with h h' <;> simpa using h

theorem passageVerdict_ok_iff {groups : List AxleGroup} {overflow noAxles : Bool} :
    passageVerdict groups overflow noAxles = .ok ↔ overflow = false ∧ noAxles = false ∧ ∀ g ∈ groups, g.verdict = .ok := by
  have hall : (∀ g ∈ groups, g.verdict = .ok) ↔
      ¬ (groups.any (·.verdict == .exceeded)) = true ∧ ¬ (groups.any (·.verdict == .unrated)) = true := by
    simp only [List.any_eq_true, beq_iff_eq]
    refine ⟨fun h => ⟨?_, ?_⟩, fun ⟨hover, hunrated⟩ g hg => ?_⟩
    · rintro ⟨g, hg, he⟩
      cases (h g hg).symm.trans he
    · rintro ⟨g, hg, he⟩
      cases (h g hg).symm.trans he
    · cases hv : g.verdict with
      | ok => rfl
      | exceeded => exact absurd ⟨g, hg, hv⟩ hover
      | unrated => exact absurd ⟨g, hg, hv⟩ hunrated
  rw [hall, passageVerdict]
  generalize groups.any (·.verdict == .exceeded) = a
  generalize groups.any (·.verdict == .unrated) = b
  cases a <;> cases b <;> cases overflow <;> cases noAxles <;> decide

/-- The greatest value, value by value. -/
theorem worstOf_cons (x : Option Int) (rest : List (Option Int)) :
    worstOf (x :: rest) = x.elim (worstOf rest) fun a => some ((worstOf rest).elim a (max a)) := by
  cases x with
  | none => rfl
  | some a => cases h : worstOf rest <;> simp [worstOf, h]

/-- The greatest of the values present. -/
theorem worstOf_spec (xs : List (Option Int)) :
    (worstOf xs = none ↔ ∀ x ∈ xs, x = none) ∧
    ∀ w, worstOf xs = some w → some w ∈ xs ∧ ∀ y, some y ∈ xs → y ≤ w := by
  induction xs with
  | nil => exact ⟨iff_of_true rfl (by simp), by simp [worstOf]⟩
  | cons x rest ih =>
    obtain ⟨hnone, hsome⟩ := ih
    rw [worstOf_cons]
    cases x with
    | none =>
      refine ⟨hnone.trans (by simp), fun w hw => ?_⟩
      obtain ⟨hmem, hmax⟩ := hsome w hw
      exact ⟨List.mem_cons_of_mem _ hmem, fun y hy => hmax y (by simpa using hy)⟩
    | some a =>
      refine ⟨by simp, fun w hw => ?_⟩
      cases hr : worstOf rest with
      | none =>
        rw [hr] at hw
        cases hw
        refine ⟨List.mem_cons_self, fun y hy => ?_⟩
        rcases List.mem_cons.1 hy with hy | hy
        · cases hy; exact Int.le_refl _
        · cases hnone.1 hr _ hy
      | some b =>
        rw [hr] at hw
        cases hw
        obtain ⟨hmem, hmax⟩ := hsome b hr
        refine ⟨?_, fun y hy => ?_⟩
        · rcases max_choice a b with h | h
          · exact List.mem_cons.2 (.inl (congrArg some h))
          · refine List.mem_cons_of_mem _ ?_
            rwa [Option.elim_some, h]
        · rcases List.mem_cons.1 hy with hy | hy
          · cases hy; exact Int.le_max_left ..
          · exact (hmax y hy).trans (Int.le_max_right ..)

/-! ### The result of a final list (R83 to R86) -/

section
variable (list : List AxleRecord) (overflow : Bool) (entry : Option ClassEntry) (weight : Int)

/-- The groups of a result, each judged by the axles that carry its number. -/
theorem axleResult_groups :
    (axleResult list overflow entry weight).groups =
      (List.range (axleResult list overflow entry weight).groups.length).map fun k =>
        judgeGroup entry (list.filter fun x => decide (x.group = some (k + 1))) := by
  have hlen : (axleResult list overflow entry weight).groups.length = groupCount list := by
    simp [axleResult]
  rw [hlen]
  exact List.map_congr_left fun k _ => congrArg (judgeGroup entry) (List.filter_congr fun x _ => beq_eq_decide ..)

/-- The flags of a result against a class entry (R85). -/
theorem axleResult_flags (c : ClassEntry) :
    ((axleResult list overflow (some c) weight).axleCountFlag = true ↔
      (if overflow = true then 13 else list.length) < c.minAxles ∨ c.maxAxles < (if overflow = true then 13 else list.length)) ∧
    ((axleResult list overflow (some c) weight).grossOver = true ↔ (c.gross : Int) < weight) := by
  simp [axleResult]

end

/-- The passage with an identity bound, no verdict being due (R118). -/
def Passage.identified (s : State) (tag : Tag) (k : TransactionKind) (o : Bool) (p : Passage) : Passage :=
  { p with identity := some (identityOf s tag k o), holds := bindingHolds s (lookupTag s tag) p.holds }

/-- The rows of IDENTIFY on a ready part (R117, R118). -/
theorem identify_rows {s : State} {now : Stamp} {ref : Byte} {tag : Tag} {kind onePass : Byte} {k : TransactionKind} {o : Bool}
    (h : s.ready) (h0 : tag ≠ 0) (hk : kindOf kind = some k) (ho : firstOrSecond onePass = some o) {p : Passage}
    (hp : s.psu.passage = some p) (hid : p.identity = none) :
    (p.state = .arriving ∨ p.state = .onBridge → p.capture = none → p.axles = none →
      exec (.identify now ref tag kind onePass) s = .next (taken now
        (report (some p.state) (some p.state) .bound none (p.identified s tag k o)
          (replyTo ref 0x12 .done (.bound (lookupTag s tag) (p.identified s tag k o).holds p.number)
            (setPassage (p.identified s tag k o) s))))) ∧
    (p.state ∈ [.arriving, .onBridge, .captured] →
      ∃ t q, exec (.identify now ref tag kind onePass) s = .next t ∧ t.psu.passage = some q ∧ q.number = p.number ∧
        q.identity = some (identityOf s tag k o) ∧
        q.axles = (verdictOf s { p with identity := some (identityOf s tag k o) }).or p.axles) := by
  have hbind : p.state ∈ [.arriving, .onBridge, .captured] →
      identify tag kind onePass (queued now ref (.identify tag kind onePass) s) =
        bindPassage tag k o p (queued now ref (.identify tag kind onePass) s) := fun ha => by
    refine (identify_passage (s := queued now ref _ s) h0 hk ho hp).trans ((if_neg (by rw [hid]; decide)).trans (if_pos ?_))
    simpa [or_assoc] using ha
  refine ⟨fun ha hc hx => ?_, fun ha => ?_⟩
  · have hmem : p.state ∈ [.arriving, .onBridge, .captured] := by
      rcases ha with ha | ha <;> rw [ha] <;> decide
    have hrun := arrive_then (g := report (some p.state) (some p.state) .bound none (p.identified s tag k o))
      (u := setPassage (p.identified s tag k o) (queued now ref (.identify tag kind onePass) s)) (fun _ => rfl) h
      (t := setPassage (p.identified s tag k o) s) h (d := .identify tag kind onePass) rfl (by rfl)
      ((hbind hmem).trans (bindPassage_early ha hc hx))
    exact hrun
  · obtain ⟨q, hq, hrest⟩ := bindPassage_passage (s := queued now ref (.identify tag kind onePass) s) (p := p) (tag := tag)
      (k := k) (o := o)
    exact ⟨_, q, arrive_ready h now ref (d := .identify tag kind onePass) rfl,
      (congrArg (fun x : State => x.psu.passage) (hbind ha)).trans hq, hrest⟩

/-- Settles O45: the rows, the verdict's condition, the grouping, a group's judgement and the result. -/
theorem identifyBindsThePassage : Obligations.IdentifyBindsThePassage := by
  refine ⟨?_, ?_, ?_, ?_, ?_⟩
  · intro s now ref tag kind onePass h code run
    have hrow : ∀ {st : Status}, identify tag kind onePass (queued now ref (.identify tag kind onePass) s) =
        answer st .nothing (queued now ref (.identify tag kind onePass) s) → run = .next (replied now ref code st .nothing s) :=
      fun hrun => arrive_replied h h (d := .identify tag kind onePass) rfl hrun
    refine ⟨fun hb => hrow (identify_bad hb), fun k o h0 hk ho =>
      ⟨fun hp => hrow (identify_none (s := queued now ref _ s) h0 hk ho hp), fun p hp => ?_⟩⟩
    have hpass := identify_passage (s := queued now ref (.identify tag kind onePass) s) h0 hk ho hp
    refine ⟨fun hid => hrow (hpass.trans (if_pos (Option.isSome_iff_ne_none.2 hid))), fun hid hn => hrow (hpass.trans ?_), ?_⟩
    · refine (if_neg (by rw [hid]; decide)).trans (if_neg ?_)
      simpa [or_assoc] using hn
    · intro l identity unlisted blocked holds p'
      refine ⟨fun hid ha hc hx => ?_, fun hid ha => ?_⟩
      · have hearly := (identify_rows (now := now) (ref := ref) h h0 hk ho hp hid).1 ha hc hx
        rw [Passage.identified, bindingHolds_eq] at hearly
        exact hearly
      · exact (identify_rows h h0 hk ho hp hid).2 ha
  · intro s p
    refine ⟨fun i c hi hc hf => ?_, fun hn => ?_⟩
    · rw [verdictOf, hi, hc]
      exact if_pos hf
    · cases hi : p.identity with
      | none => rw [verdictOf, hi]
      | some i =>
        cases hc : p.capture with
        | none => rw [verdictOf, hi, hc]
        | some c =>
          rw [verdictOf, hi, hc]
          exact if_neg (by simpa [hi, hc] using hn)
  · intro gap list final
    refine ⟨numberGroups_keeps 0 list, fun r hr => ?_, fun k a b ha hb => ?_⟩
    · cases list with
      | nil => cases hr
      | cons x rest =>
        have hfirst := numberGroups_cons (gap := gap) (current := 0) (n := 1) (r := x) (rest := rest)
          ⟨fun h => absurd rfl h.1, fun _ => rfl⟩
        rw [show final = _ from hfirst] at hr
        cases hr
        rfl
    · obtain ⟨hjoin, hnew⟩ := numberGroups_next ha hb
      split_ifs with hj
      · exact hjoin hj
      · exact hnew hj
  · intro entry axles n
    refine ⟨?_, fun hn => ?_⟩
    · intro c hc h1 h4 hvalid load excess
      subst hc
      obtain ⟨hkind, hlimit⟩ := groupKind_limit c h1 h4
      rw [judgeGroup_rated (entry := some c) hlimit (sumLoads_valid hvalid), hkind]
    · rw [judgeGroup_unrated]
      · exact ⟨rfl, rfl, rfl⟩
      · rcases hn with hn | hn | ⟨r, hr, hbad⟩
        · exact .inl (by rw [hn]; rfl)
        · refine .inl ?_
          rw [groupKind_large hn]
          cases entry <;> rfl
        · exact .inr (sumLoads_missing (List.mem_map.2 ⟨r, hr, validLoad_none_iff.2 hbad⟩))
  · intro list overflow entry weight r number
    obtain ⟨hnone, hsome⟩ := worstOf_spec (r.groups.map fun g => g.excess)
    refine ⟨axleResult_groups .., rfl, rfl, passageVerdict_exceeded_iff, passageVerdict_ok_iff.trans (and_congr_right fun _ => and_congr_left fun _ => List.isEmpty_eq_false_iff),
      hnone.trans (by simp), fun x hx => ?_, fun he => ?_, fun c hc => ?_⟩
    · obtain ⟨hmem, hmax⟩ := hsome x hx
      refine ⟨by simpa using hmem, fun g hg y hy => hmax y (List.mem_map.2 ⟨g, hg, hy⟩)⟩
    · subst he
      exact ⟨rfl, rfl⟩
    · subst hc
      exact axleResult_flags ..

end Sys2Proof.Machine
end

section
/-! SUPPORT. Calibration: a change of the set in use (R22, R34, R65, R81), the parameters and their ranges (R155, R159) and the judgement
of a commit (R162, R163). -/

namespace Sys2Proof.Machine

/-! ## A change of the set in use -/

section
variable {s : State} {old new : CalSet}

/-- The passage is in a state in which axles are checked. -/
theorem axleStates_iff :
    s.axleStates = true ↔ ∃ p, s.psu.passage = some p ∧ (p.state = .arriving ∨ p.state = .onBridge) := by
  rw [State.axleStates]
  cases s.psu.passage <;> simp

/-- The Axle Monitor after a change of the pad designation (R65, R81). -/
def State.axlesAfter (old : CalSet) (s : State) : Axm :=
  if old.padDeck = false ∧ s.setInUse.padDeck = true ∧
      (∃ p, s.psu.passage = some p ∧ (p.state = .arriving ∨ p.state = .onBridge)) then
    { Axm.cleared with checking := true }
  else if old.padDeck = true ∧ s.setInUse.padDeck = false ∧ s.axm.checking = true then
    { s.axm with checking := false, pairing := none, queue := [], pad := .unknown, dwell := none }
  else s.axm

/-- What a change of the pad designation does to the checking of axles. -/
theorem axlesUnder_eq : axlesUnder old s = { s with axm := s.axlesAfter old } := by
  have hbegin : (!old.padDeck && s.padDesignated && s.axleStates) = true ↔
      old.padDeck = false ∧ s.setInUse.padDeck = true ∧
        ∃ p, s.psu.passage = some p ∧ (p.state = .arriving ∨ p.state = .onBridge) := by
    rw [Bool.and_eq_true, Bool.and_eq_true, Bool.not_eq_true', axleStates_iff, and_assoc]
    rfl
  have hend : (old.padDeck && !s.padDesignated && s.axm.checking) = true ↔
      old.padDeck = true ∧ s.setInUse.padDeck = false ∧ s.axm.checking = true := by
    rw [Bool.and_eq_true, Bool.and_eq_true, Bool.not_eq_true', and_assoc]
    rfl
  rw [State.axlesAfter]
  by_cases hb : old.padDeck = false ∧ s.setInUse.padDeck = true ∧
      ∃ p, s.psu.passage = some p ∧ (p.state = .arriving ∨ p.state = .onBridge)
  · rw [if_pos hb]
    exact if_pos (hbegin.2 hb)
  · rw [if_neg hb]
    refine (if_neg fun h => hb (hbegin.1 h)).trans ?_
    by_cases he : old.padDeck = true ∧ s.setInUse.padDeck = false ∧ s.axm.checking = true
    · rw [if_pos he]
      exact if_pos (hend.2 he)
    · rw [if_neg he]
      exact if_neg fun h => he (hend.1 h)

/-- The change asks for a reload of the zeros (R22, R34). -/
theorem reloads_iff :
    old.reloads new = true ↔
      old.decks.map (·.mask) ≠ new.decks.map (·.mask) ∨ old.division ≠ new.division ∨ old.maxLoad ≠ new.maxLoad := by
  simp only [CalSet.reloads, Bool.or_eq_true, bne_iff_ne, or_assoc]

/-- The change empties the histories (R22). -/
theorem empties_iff :
    old.empties new = true ↔ old.filterLength ≠ new.filterLength ∨ old.stabilityWindow ≠ new.stabilityWindow := by
  simp only [CalSet.empties, Bool.or_eq_true, bne_iff_ne]

/-- A deck that was not configured before. -/
theorem deckUnder_absent (reload : Bool) (i : Nat) :
    deckUnder old new reload i none = if (new.deck i).mask = 0 then none else some (.fresh (new.deck i).zeroCal) :=
  if_congr beq_iff_eq rfl rfl

/-- A configured deck. -/
theorem deckUnder_present (reload : Bool) (i : Nat) (d : Deck) :
    deckUnder old new reload i (some d) =
      if (new.deck i).mask = 0 then none
      else some (if reload = true then d.reloaded else if old.empties new = true then d.emptied else d) :=
  if_congr beq_iff_eq rfl rfl

end

/-- Settles O51. -/
theorem setInUseChanges : Obligations.SetInUseChanges := by
  intro s old reload new reloads empties
  have hreload : (reload || old.reloads new) = true ↔ reloads := by rw [Bool.or_eq_true, reloads_iff]
  rw [setChanged, axlesUnder_eq]
  refine congrArg (fun decks => ({ s with wge := { s.wge with decks := decks }, axm := s.axlesAfter old } : State)) ?_
  refine congrArg (s.wge.decks.mapIdx ·) (funext fun i => funext fun d => ?_)
  cases d with
  | none => exact deckUnder_absent ..
  | some d =>
    exact (deckUnder_present ..).trans
      (if_congr Iff.rfl rfl (congrArg some (if_congr hreload rfl (if_congr empties_iff rfl rfl))))

/-! ## The parameters of a set -/

/-- A boolean parameter's number. -/
theorem ite_beq_one {v : Int} (h : v = 0 ∨ v = 1) : (if (v == 1) = true then (1 : Int) else 0) = v := by
  rcases h with rfl | rfl <;> rfl

theorem within_iff {lo hi v : Int} : within lo hi v = true ↔ lo ≤ v ∧ v ≤ hi := by
  simp only [within, Bool.and_eq_true, decide_eq_true_eq]

/-- The ranges of R155, one parameter after the other. -/
theorem inRange_boolean {v : Int} (h : within 0 1 v = true) : v = 0 ∨ v = 1 := by
  have := within_iff.1 h
  omega

section
variable {v : Int}

/-- A written global parameter reads back. -/
theorem getGlobal_setGlobal_same (c : CalSet) {p : GlobalParam} (h : ParamId.inRange (.global p) v = true) :
    (c.setGlobal v p).getGlobal p = v := by
  have hnat : 0 ≤ v → ((v.toNat : Nat) : Int) = v := Int.toNat_of_nonneg
  cases p with
  | padDeck => exact ite_beq_one (inRange_boolean h)
  | division | filterLength | warmupLength =>
    refine hnat ?_
    simp only [ParamId.inRange, List.mem_cons, List.not_mem_nil, or_false, decide_eq_true_eq] at h
    omega
  | _ => exact hnat (Int.le_trans (by decide) (within_iff.1 h).1)

/-- The other global parameters stand. -/
theorem getGlobal_setGlobal_other (c : CalSet) {p q : GlobalParam} (h : q ≠ p) : (c.setGlobal v p).getGlobal q = c.getGlobal q := by
  cases p <;> cases q <;> first | rfl | exact absurd rfl h

theorem deckGet_set_same (d : DeckCal) {p : DeckParam} {i : Nat} (h : ParamId.inRange (.deck p i) v = true) :
    (d.set v p).get p = v := by
  cases p with
  | cellMask =>
    obtain ⟨h0, h1⟩ := within_iff.1 h
    simp only [DeckCal.set, DeckCal.get, BitVec.toNat_ofNat]
    omega
  | inBridge => exact ite_beq_one (inRange_boolean h)
  | zeroCal => rfl

theorem deckGet_set_other (d : DeckCal) {p q : DeckParam} (h : q ≠ p) : (d.set v p).get q = d.get q := by
  cases p <;> cases q <;> first | rfl | exact absurd rfl h

theorem cellGet_set_same (c : CellCal) {p : CellParam} {n : Nat} (h : ParamId.inRange (.cell p n) v = true) :
    (c.set v p).get p = v := by
  have hnat : 0 ≤ v → ((v.toNat : Nat) : Int) = v := Int.toNat_of_nonneg
  cases p with
  | offset | refCount => rfl
  | gain | corner | refTolerance => exact hnat (Int.le_trans (by decide) (within_iff.1 h).1)

theorem cellGet_set_other (c : CellCal) {p q : CellParam} (h : q ≠ p) : (c.set v p).get q = c.get q := by
  cases p <;> cases q <;> first | rfl | exact absurd rfl h

end

/-- The decks and the cells of the parameters (R161). -/
theorem deck_of_mem {p : DeckParam} {i : Nat} (h : .deck p i ∈ allParams) : i < 4 := by
  have hboth : i < 4 ∧ p ∈ deckParams := by simpa [allParams] using h
  exact hboth.1

theorem cell_of_mem {p : CellParam} {n : Nat} (h : .cell p n ∈ allParams) : 1 ≤ n ∧ n ≤ 16 := by
  have hsome : ∃ a < 16, p ∈ cellParams ∧ a + 1 = n := by simpa [allParams] using h
  obtain ⟨a, ha, -, rfl⟩ := hsome
  omega

section
variable {c : CalSet} {v : Int}

/-- A deck of a set in which a deck parameter is written. -/
theorem deck_set {p : DeckParam} {i j : Nat} (hi : i < c.decks.length) :
    (c.set v (.deck p i)).deck j = if j = i then (c.deck i).set v p else c.deck j := by
  simp only [CalSet.set, CalSet.deck, List.getD_eq_getElem?_getD, List.getElem?_set]
  by_cases h : j = i
  · subst h
    simp [hi]
  · simp [h, Ne.symm h]

/-- A cell of a set in which a cell parameter is written. -/
theorem cell_set {p : CellParam} {n m : Nat} (hn : n - 1 < c.cells.length) (h1 : 1 ≤ n) (hm : 1 ≤ m) :
    (c.set v (.cell p n)).cell m = if m = n then (c.cell n).set v p else c.cell m := by
  simp only [CalSet.set, CalSet.cell, List.getD_eq_getElem?_getD, List.getElem?_set]
  by_cases h : m = n
  · subst h
    simp [hn]
  · have hne : n - 1 ≠ m - 1 := by omega
    simp [h, hne]

/-- A written global parameter leaves the decks and the cells. -/
theorem setGlobal_lists (p : GlobalParam) : (c.setGlobal v p).decks = c.decks ∧ (c.setGlobal v p).cells = c.cells := by
  cases p <;> exact ⟨rfl, rfl⟩

/-- A written parameter reads back and every other one stands (R159). -/
theorem get_set {p q : ParamId} (hd : c.decks.length = 4) (hc : c.cells.length = 16) (hp : p ∈ allParams) (hq : q ∈ allParams)
    (hr : p.inRange v = true) : (c.set v p).get q = if q = p then v else c.get q := by
  by_cases h : q = p
  · subst h
    rw [if_pos rfl]
    cases q with
    | global p => exact getGlobal_setGlobal_same c hr
    | deck p i => rw [CalSet.get, deck_set (hd ▸ deck_of_mem hp), if_pos rfl, deckGet_set_same _ hr]
    | cell p n =>
      obtain ⟨h1, h16⟩ := cell_of_mem hp
      rw [CalSet.get, cell_set (by omega) h1 h1, if_pos rfl, cellGet_set_same _ hr]
  · rw [if_neg h]
    cases p with
    | global p =>
      obtain ⟨hdecks, hcells⟩ := setGlobal_lists (c := c) (v := v) p
      cases q with
      | global q => exact getGlobal_setGlobal_other c fun hqp => h (hqp ▸ rfl)
      | deck q j => exact congrArg (fun ds : List DeckCal => (ds.getD j DeckCal.factory).get q) hdecks
      | cell q m => exact congrArg (fun cs : List CellCal => (cs.getD (m - 1) CellCal.factory).get q) hcells
    | deck p i =>
      cases q with
      | global q => cases q <;> rfl
      | cell q m => rfl
      | deck q j =>
        rw [CalSet.get, deck_set (hd ▸ deck_of_mem hp)]
        by_cases hj : j = i
        · subst hj
          rw [if_pos rfl, deckGet_set_other _ fun hqp : q = p => h (hqp ▸ rfl)]
          rfl
        · rw [if_neg hj]
          rfl
    | cell p n =>
      obtain ⟨h1, h16⟩ := cell_of_mem hp
      cases q with
      | global q => cases q <;> rfl
      | deck q j => rfl
      | cell q m =>
        rw [CalSet.get, cell_set (by omega) h1 (cell_of_mem hq).1]
        by_cases hm : m = n
        · subst hm
          rw [if_pos rfl, cellGet_set_other _ fun hqp : q = p => h (hqp ▸ rfl)]
          rfl
        · rw [if_neg hm]
          rfl

end

/-! ## SET_PARAM -/

/-- The part with another staged set. -/
def restaged (next : CalSet) (s : State) : State := { s with clu := { s.clu with staged := some next } }

/-- The outputs follow a staged set that is replaced while a directive is judged. -/
theorem refreshLights_restaged_queued {staged next : CalSet} {now : Stamp} {ref : Byte} {d : Directive} {s : State} :
    refreshLights (setChanged staged false (restaged next (queued now ref d s))) =
      queued now ref d (setChanged staged false (restaged next s)) := by
  have hlines : restaged next (queued now ref d s) =
      withLines (queued now ref d s).ylu (queued now ref d s).tli (restaged next s) := rfl
  rw [hlines, setChanged_withLines, setChanged_eq]
  rfl

/-- SET_PARAM in calibration mode (R159). -/
theorem setParam_done {s : State} {staged : CalSet} {p : ParamId} {identifier place : Byte} {value : BitVec 32}
    (hs : s.clu.staged = some staged) (hp : paramOf identifier place = some p) (hr : p.inRange value.toInt = true) :
    setParam identifier place value s =
      answer .done (.paramSet (staged.get p) ((staged.set value.toInt p).get p)
          (changedParams (staged.set value.toInt p) s.committed).length)
        (setChanged staged false (restaged (staged.set value.toInt p) s)) := by
  have hrange : p.inRange (signed32 value) = true := hr
  have hcount : (setChanged staged false (restaged (staged.set value.toInt p) s)).changedCount =
      (changedParams (staged.set value.toInt p) s.committed).length := by
    rw [setChanged_eq]
    rfl
  simp only [setParam, hs, hp, hrange, if_true]
  rw [writeParam, ← hcount]
  rfl

theorem setParam_bad {s : State} {staged : CalSet} {identifier place : Byte} {value : BitVec 32}
    (hs : s.clu.staged = some staged) (hp : paramOf identifier place = none) :
    setParam identifier place value s = answer .badValue .nothing s := by
  simp only [setParam, hs, hp]

theorem setParam_outOfRange {s : State} {staged : CalSet} {p : ParamId} {identifier place : Byte} {value : BitVec 32}
    (hs : s.clu.staged = some staged) (hp : paramOf identifier place = some p) (hr : p.inRange value.toInt = false) :
    setParam identifier place value s = answer .badValue .nothing s := by
  simp only [setParam, hs, hp]
  exact if_neg (by rw [signed32, hr]; decide)

/-- Settles O52: the rows of R159, the parameter written, the identifiers and the ranges of R155. -/
theorem parameterIsSet : Obligations.ParameterIsSet := by
  refine ⟨?_, fun c v p q hd hc hp hq hr => get_set hd hc hp hq hr, ?_, ?_⟩
  · intro s now ref identifier place value h run
    have hrow : ∀ {st : Status}, setParam identifier place value (queued now ref (.setParam identifier place value) s) =
        answer st .nothing (queued now ref (.setParam identifier place value) s) → run = .next (replied now ref 0x1A st .nothing s) :=
      fun hrun => arrive_replied h h (d := .setParam identifier place value) rfl hrun
    refine ⟨fun hs => hrow ?_, fun hs hp => ?_, fun p hs hp hr => ?_, fun p staged hs hp hr => ?_⟩
    · rw [setParam, show (queued now ref (.setParam identifier place value) s).clu.staged = none from hs]
    · obtain ⟨staged, hs⟩ := Option.ne_none_iff_exists'.1 hs
      exact hrow (setParam_bad (s := queued now ref _ s) hs hp)
    · obtain ⟨staged, hs⟩ := Option.ne_none_iff_exists'.1 hs
      exact hrow (setParam_outOfRange (s := queued now ref _ s) hs hp hr)
    · exact arrive_replied_refreshed h (setChanged_ready (s := restaged _ s) h _ _) (d := .setParam identifier place value) rfl
        refreshLights_restaged_queued (setParam_done (s := queued now ref _ s) hs hp hr)
  · intro identifier place n global deck cell
    have hglobal : ∀ o : Option ParamId, (if n == 0 then o else none) = if n = 0 then o else none :=
      fun o => if_congr beq_iff_eq rfl rfl
    have hcell : ∀ o : Option ParamId, (if 1 ≤ n && n ≤ 16 then o else none) = if 1 ≤ n ∧ n ≤ 16 then o else none :=
      fun o => if_congr (by simp) rfl rfl
    simp only [paramOf]
    generalize identifier.toNat = m
    rcases Nat.lt_or_ge m 17 with hm | hm
    · interval_cases m
      · rfl
      iterate 8 exact hglobal _
      iterate 3 rfl
      iterate 5 exact hcell _
    · obtain ⟨k, rfl⟩ := Nat.exists_eq_add_of_le' hm
      refine (if_neg ?_).trans ((if_neg ?_).trans ((if_neg ?_).trans (if_neg ?_)))
      · simp
      all_goals omega
  · intro p v
    have hboolean : within 0 1 v = true ↔ v = 0 ∨ v = 1 := ⟨inRange_boolean, by rintro (rfl | rfl) <;> rfl⟩
    cases p with
    | global p =>
      cases p with
      | division | filterLength | warmupLength => exact decide_eq_true_iff
      | padDeck => exact hboolean
      | _ => exact within_iff
    | deck p i =>
      cases p with
      | inBridge => exact hboolean
      | _ => exact within_iff
    | cell p n => cases p <;> exact within_iff

/-! ## COMMIT_CAL -/

section
variable {s : State} {staged : CalSet}

theorem commitCal_switch (hs : s.clu.staged = some staged) (hw : s.ylu.calSwitch.accepted ≠ some true) :
    commitCal s = answer .switchOpen .nothing s := by
  simp only [commitCal, hs]
  exact if_pos (by simpa [State.switchClosed] using hw)

theorem commitCal_clock (hs : s.clu.staged = some staged) (hw : s.ylu.calSwitch.accepted = some true) (hc : s.cck.isSet = false) :
    commitCal s = answer .clockUnset .nothing s := by
  simp only [commitCal, hs]
  exact (if_neg (by simp [State.switchClosed, hw])).trans (if_pos (by rw [hc]; rfl))

theorem commitCal_busy (hs : s.clu.staged = some staged) (hw : s.ylu.calSwitch.accepted = some true) (hc : s.cck.isSet = true)
    (hp : s.psu.passage ≠ none) : commitCal s = answer .busy .nothing s := by
  simp only [commitCal, hs]
  exact (if_neg (by simp [State.switchClosed, hw])).trans
    ((if_neg (by rw [hc]; decide)).trans (if_pos (by simp [State.idle, Option.isSome_iff_ne_none, hp])))

/-- The part is ready for a commit: the switch is closed, the clock set and no passage exists. -/
def State.committable (s : State) : Prop :=
  s.ylu.calSwitch.accepted = some true ∧ s.cck.isSet = true ∧ s.psu.passage = none

theorem commitCal_flaw {flaw : CommitFlaw} (hs : s.clu.staged = some staged) (h : s.committable)
    (hf : commitFlaw staged s.stc.store.calibration.count s.stc.store.calibration.newest
      (changedParams staged s.committed).length = some flaw) :
    commitCal s = answer .badValue (.commitFlaw flaw) s := by
  obtain ⟨hw, hc, hp⟩ := h
  simp only [commitCal, State.changedCount, hs, hf]
  exact (if_neg (by simp [State.switchClosed, hw])).trans
    ((if_neg (by rw [hc]; decide)).trans (if_neg (by simp [State.idle, hp])))

/-- A staged set without a flaw (R162). -/
theorem commitCal_sound (hs : s.clu.staged = some staged) (h : s.committable)
    (hf : commitFlaw staged s.stc.store.calibration.count s.stc.store.calibration.newest
      (changedParams staged s.committed).length = none) :
    commitCal s =
      if 48 < (changedParams staged s.committed).length + s.unaudited then
        answer .trailFull (.trailFull (changedParams staged s.committed).length s.unaudited) s
      else if (changedParams staged s.committed).length = 0 then answer .badValue .nothing s
      else if s.stc.fault = true then answer .storeFault .nothing s
      else handCommit staged s := by
  obtain ⟨hw, hc, hp⟩ := h
  simp only [commitCal, State.changedCount, hs, hf]
  exact (if_neg (by simp [State.switchClosed, hw])).trans
    ((if_neg (by rw [hc]; decide)).trans ((if_neg (by simp [State.idle, hp])).trans
      (if_congr Iff.rfl rfl (if_congr beq_iff_eq rfl rfl))))

/-- The commit update, handed to the store (R163). -/
theorem handCommit_eq (hf : s.stc.fault = false) :
    handCommit staged s = holdQueue
      { s with
        clu := { s.clu with openingRecorded := false }
        stc := { s.stc with queue := s.stc.queue ++ [.commit staged
          (trailEntries staged s.committed s.stc.store.calibration.newest (s.stc.store.calibration.count + 1) s.cck.time)] } } := by
  rw [handCommit, handUpdate_clear (s := { s with clu := { s.clu with openingRecorded := false } }) _ hf]

end

/-! ### The cross-field conditions -/

/-- Two of four. -/
theorem two_of_four (f : Nat → Bool) :
    1 < ((List.range 4).filter f).length ↔ ∃ i j, i < j ∧ j < 4 ∧ f i = true ∧ f j = true := by
  have hpairs : (∃ i j, i < j ∧ j < 4 ∧ f i = true ∧ f j = true) ↔
      (f 0 && f 1 || f 0 && f 2 || f 0 && f 3 || f 1 && f 2 || f 1 && f 3 || f 2 && f 3) = true := by
    constructor
    · rintro ⟨i, j, hij, hj, hi, hj'⟩
      interval_cases j <;> interval_cases i <;> simp [hi, hj']
    · simp only [Bool.or_eq_true, Bool.and_eq_true, or_assoc]
      rintro (h | h | h | h | h | h)
      · exact ⟨0, 1, by decide, by decide, h⟩
      · exact ⟨0, 2, by decide, by decide, h⟩
      · exact ⟨0, 3, by decide, by decide, h⟩
      · exact ⟨1, 2, by decide, by decide, h⟩
      · exact ⟨1, 3, by decide, by decide, h⟩
      · exact ⟨2, 3, by decide, by decide, h⟩
  have hrange : List.range 4 = [0, 1, 2, 3] := rfl
  simp only [hpairs, hrange, List.filter_cons, List.filter_nil]
  generalize f 0 = a
  generalize f 1 = b
  generalize f 2 = c
  generalize f 3 = d
  cases a <;> cases b <;> cases c <;> cases d <;> decide

/-- The number of nodes a mask names. -/
theorem maskNodes_length (mask : BitVec 16) : (maskNodes mask).length = (List.range 16).countP fun i => mask.getLsbD i := by
  rw [maskNodes, List.length_filterMap_eq_countP]
  refine List.countP_congr fun i _ => ?_
  cases mask.getLsbD i <;> simp

/-- A deck with more than eight cells (R162). -/
def CalSet.oversized (c : CalSet) (i : Nat) : Prop := 8 < (List.range 16).countP fun b => (c.deck i).mask.getLsbD b

/-- A node that two decks name (R162). -/
def CalSet.shared (c : CalSet) (n : Nat) : Prop :=
  ∃ i j, i < j ∧ j < 4 ∧ (c.deck i).mask.getLsbD (n - 1) = true ∧ (c.deck j).mask.getLsbD (n - 1) = true

section
variable {c : CalSet} {count newest k : Nat}

theorem oversized_iff (i : Nat) :
    ((c.deck i).mask != 0 && decide ((maskNodes (c.deck i).mask).length > 8)) = true ↔ c.oversized i := by
  rw [Bool.and_eq_true, decide_eq_true_eq, maskNodes_length, bne_iff_ne]
  refine ⟨fun h => h.2, fun h => ⟨fun h0 => ?_, h⟩⟩
  rw [CalSet.oversized, h0] at h
  exact absurd h (by decide)

theorem shared_iff (n : Nat) : decide (c.decksNaming n > 1) = true ↔ c.shared n := by
  rw [decide_eq_true_eq]
  exact two_of_four fun i => (c.deck i).mask.getLsbD (n - 1)

/-- The lowest node that two decks name. -/
theorem sharedNode_some {n : Nat} (h1 : 1 ≤ n) (h16 : n ≤ 16) (hn : c.shared n) (hlow : ∀ m, 1 ≤ m → m < n → ¬ c.shared m) :
    ((List.range 16).map (· + 1)).find? (fun n => c.decksNaming n > 1) = some n := by
  obtain ⟨i, rfl⟩ := Nat.exists_eq_add_of_le' h1
  rw [List.find?_map, List.find?_range_eq_some.2 ⟨(shared_iff _).2 hn, List.mem_range.2 (by omega), fun j hj => ?_⟩]
  · rfl
  · rw [Bool.not_eq_true', ← Bool.not_eq_true]
    exact fun h => hlow (j + 1) (by omega) (by omega) ((shared_iff _).1 h)

theorem sharedNode_none (h : ∀ n, 1 ≤ n → n ≤ 16 → ¬ c.shared n) :
    ((List.range 16).map (· + 1)).find? (fun n => c.decksNaming n > 1) = none := by
  rw [List.find?_eq_none]
  intro n hn hs
  obtain ⟨i, hi, rfl⟩ := List.mem_map.1 hn
  exact h (i + 1) (by omega) (by have := List.mem_range.1 hi; omega) ((shared_iff _).1 hs)

/-- The lowest deck with too many cells. -/
theorem oversizedDeck_some {i : Nat} (h4 : i < 4) (hi : c.oversized i) (hlow : ∀ j, j < i → ¬ c.oversized j) :
    (List.range 4).find? (fun i => (c.deck i).mask != 0 && (maskNodes (c.deck i).mask).length > 8) = some i := by
  refine List.find?_range_eq_some.2 ⟨(oversized_iff i).2 hi, List.mem_range.2 h4, fun j hj => ?_⟩
  rw [Bool.not_eq_true', ← Bool.not_eq_true]
  exact fun h => hlow j hj ((oversized_iff j).1 h)

theorem oversizedDeck_none (h : ∀ i, i < 4 → ¬ c.oversized i) :
    (List.range 4).find? (fun i => (c.deck i).mask != 0 && (maskNodes (c.deck i).mask).length > 8) = none := by
  rw [List.find?_eq_none]
  exact fun i hi ho => h i (List.mem_range.1 hi) ((oversized_iff i).1 ho)

/-- The first flaw where no node is shared and no deck too large. -/
theorem commitFlaw_rest (hn : ∀ n, 1 ≤ n → n ≤ 16 → ¬ c.shared n) (hd : ∀ i, i < 4 → ¬ c.oversized i) :
    commitFlaw c count newest k =
      if ¬ (500 * c.division ≤ c.maxLoad ∧ c.maxLoad ≤ 10000 * c.division) then some .capacityRatio
      else if c.padDeck = true ∧ (c.deck 0).mask = 0 then some .padEmpty
      else if count = 4294967295 then some .countSpent
      else if 4294967295 < newest + k then some .sequenceSpent
      else none := by
  simp only [commitFlaw, sharedNode_none hn, oversizedDeck_none hd]
  refine if_congr ?_ rfl (if_congr ?_ rfl (if_congr beq_iff_eq rfl rfl))
  · rw [Bool.not_eq_true', ← Bool.not_eq_true, Bool.and_eq_true, decide_eq_true_eq, decide_eq_true_eq]
  · rw [Bool.and_eq_true, beq_iff_eq]

end

/-- Settles O54: the rows of R162 in order, and the first flaw. -/
theorem commitIsJudgedAndHanded : Obligations.CommitIsJudgedAndHanded := by
  refine ⟨?_, ?_⟩
  · intro s now ref h run area unaudited
    have hrow : ∀ {st : Status} {r : Result}, commitCal (queued now ref .commitCal s) = answer st r (queued now ref .commitCal s) →
        run = .next (replied now ref 0x1C st r s) := fun hrun => arrive_replied h h (d := .commitCal) rfl hrun
    refine ⟨fun hs => hrow ?_, ?_⟩
    · rw [commitCal, show (queued now ref .commitCal s).clu.staged = none from hs]
    · intro staged hs changed k closed
      refine ⟨fun hw => hrow (commitCal_switch (s := queued now ref _ s) hs hw),
        fun hw hc => hrow (commitCal_clock (s := queued now ref _ s) hs hw hc),
        fun hw hc hp => hrow (commitCal_busy (s := queued now ref _ s) hs hw hc hp), fun hw hc hp => ?_⟩
      refine ⟨fun flaw hf => hrow (commitCal_flaw (s := queued now ref _ s) hs ⟨hw, hc, hp⟩ hf), fun hf => ?_⟩
      have hsound := commitCal_sound (s := queued now ref .commitCal s) hs ⟨hw, hc, hp⟩ hf
      refine ⟨fun hk => hrow (hsound.trans (if_pos hk)), fun hk h0 => hrow (hsound.trans ?_), fun hk h0 hfault => hrow (hsound.trans ?_),
        fun hk h0 hfault => ?_⟩
      · exact (if_neg (Nat.not_lt.2 hk)).trans (if_pos h0)
      · exact (if_neg (Nat.not_lt.2 hk)).trans ((if_neg h0).trans (if_pos hfault))
      · intro entries
        refine arrive_holding h (d := .commitCal) rfl ?_ (hsound.trans ((if_neg (Nat.not_lt.2 hk)).trans ((if_neg h0).trans
          ((if_neg (by rw [show (queued now ref .commitCal s).stc.fault = false from hfault]; decide)).trans
            (handCommit_eq (s := queued now ref .commitCal s) hfault)))))
        rfl
  · intro c count newest k twice big flaw
    refine ⟨fun n h1 h16 hn hlow => ?_, fun hn => ⟨fun i h4 hi hlow => ?_, fun hd => commitFlaw_rest hn hd⟩⟩
    · simp only [flaw, commitFlaw, sharedNode_some h1 h16 hn hlow]
    · simp only [flaw, commitFlaw, sharedNode_none hn, oversizedDeck_some h4 hi hlow]

end Sys2Proof.Machine
end

section
/-! SUPPORT. Verification audits: load points (R179 to R181), reference points (R182 to R184) and the certificate (R185 to R187). -/

namespace Sys2Proof.Machine

/-! ## Load points -/

section
variable {s : State} {target : Byte} {declared : BitVec 32} {t : PointTarget} {session : Session}

theorem targetOf_none (h4 : 4 ≤ target.toNat) (hff : target ≠ 0xFF) : targetOf target = none :=
  (if_neg (by simpa using hff)).trans (if_neg (Nat.not_lt.2 h4))

/-- A target or a declared load out of range (R179). -/
theorem capturePoint_bad (h : 4 ≤ target.toNat ∧ target ≠ 0xFF ∨ 200000 < declared.toNat) :
    capturePoint target declared s = answer .badValue .nothing s := by
  cases ht : targetOf target with
  | none => simp only [capturePoint, ht]
  | some t =>
    rcases h with ⟨h4, hff⟩ | h
    · rw [targetOf_none h4 hff] at ht
      cases ht
    · simp only [capturePoint, ht]
      exact if_pos h

theorem capturePoint_closed (ht : targetOf target = some t) (hd : declared.toNat ≤ 200000) (hs : s.vfu.session = none) :
    capturePoint target declared s = answer .wrongState .nothing s := by
  simp only [capturePoint, ht, hs]
  exact if_neg (Nat.not_lt.2 hd)

/-- A target that the committed set does not configure. -/
theorem missing_iff {c : CalSet} : t.missing c = true ↔ ∃ i, t = .deck i ∧ (c.deck i).mask = 0 := by
  cases t <;> simp [PointTarget.missing]

/-- The session with a point more. -/
def Session.withPoint (p : Point) (session : Session) : Session := { session with points := session.points ++ [p] }

/-- The point of a reading (R180, R181). -/
def loadPointOf (s : State) (t : PointTarget) (declared : Nat) (index : Nat) (grams : Int) : Point :=
  { index := index, pass := (loadPoint s.committed.division t declared grams).pass
    body := .load (loadPoint s.committed.division t declared grams) }

/-- CAPTURE_POINT in an open session (R179). -/
theorem capturePoint_open (ht : targetOf target = some t) (hd : declared.toNat ≤ 200000) (hs : s.vfu.session = some session) :
    capturePoint target declared s =
      if t.missing s.committed = true then answer .notFound .nothing s
      else if (!s.idle) = true then answer .busy .nothing s
      else if 12 ≤ session.points.length then answer .listFull .nothing s
      else (s.wge.latest.bind (targetGrams · t)).elim (answer .unstable .nothing s) fun grams =>
        let point := loadPointOf s t declared.toNat (session.points.length + 1) grams
        answer .done (.point point) (setSession (some (session.withPoint point)) s) := by
  simp only [capturePoint, ht, hs]
  refine (if_neg (Nat.not_lt.2 hd)).trans (if_congr Iff.rfl rfl (if_congr Iff.rfl rfl (if_congr Iff.rfl rfl ?_)))
  cases s.wge.latest.bind (targetGrams · t) <;> rfl

/-- What a deck's target reads (R179, R180). -/
theorem targetGrams_deck_some {r : WeightRecord} {i : Nat} {v : DeckView} (hv : r.decks.getD i none = some v)
    (hs : v.state = .valid) (hst : v.stable = true) : targetGrams r (.deck i) = v.value := by
  simp only [targetGrams, hv, hs, hst]
  rfl

theorem targetGrams_deck_none {r : WeightRecord} {i : Nat}
    (h : ∀ v, r.decks.getD i none = some v → v.state ≠ .valid ∨ v.stable = false ∨ v.value = none) :
    targetGrams r (.deck i) = none := by
  cases hv : r.decks.getD i none with
  | none => simp only [targetGrams, hv]
  | some v =>
    simp only [targetGrams, hv]
    split
    · next hall =>
      rw [Bool.and_eq_true, beq_iff_eq] at hall
      rcases h v hv with hn | hn | hn
      · exact absurd hall.1 hn
      · exact absurd hall.2 (by rw [hn]; decide)
      · exact hn
    · rfl

end

/-- Settles O56: the rows in their order, and the reading of the bridge or of a deck. -/
theorem loadPointIsCaptured : Obligations.LoadPointIsCaptured := by
  intro s now ref target declared h code run
  let d : Directive := .capturePoint target declared
  have hrow : ∀ {st : Status} {r : Result} {t : State}, t.ready →
      capturePoint target declared (queued now ref d s) = answer st r (queued now ref d t) →
      run = .next (replied now ref code st r t) := fun ht hrun => arrive_replied h ht (d := d) rfl hrun
  refine ⟨fun hb => hrow h (capturePoint_bad hb), ?_⟩
  intro t ht hd missing
  refine ⟨fun hs => hrow h (capturePoint_closed (s := queued now ref d s) ht hd hs), fun session hs => ?_⟩
  have hopen := capturePoint_open (s := queued now ref d s) ht hd hs
  have hmissing : t.missing s.committed = true ↔ missing := missing_iff
  refine ⟨fun hm => hrow h (hopen.trans (if_pos (hmissing.2 hm))), fun hm hp => hrow h (hopen.trans ?_), fun hm hp hl => hrow h (hopen.trans ?_),
    fun hm hp hl => ?_⟩
  · exact (if_neg fun hc => hm (hmissing.1 hc)).trans
      (if_pos (by rw [Bool.not_eq_true', ← Bool.not_eq_true, idle_iff]; exact hp))
  · exact (if_neg fun hc => hm (hmissing.1 hc)).trans ((if_neg (by rw [Bool.not_eq_true', ← Bool.not_eq_true, idle_iff, not_not]; exact hp)).trans
      (if_pos hl))
  have hread := hopen.trans ((if_neg fun hc => hm (hmissing.1 hc)).trans
    ((if_neg (by rw [Bool.not_eq_true', ← Bool.not_eq_true, idle_iff, not_not]; exact hp)).trans (if_neg (Nat.not_le.2 hl))))
  have hnone : s.wge.latest.bind (targetGrams · t) = none → run = .next (replied now ref code .unstable .nothing s) := fun hg => by
    refine hrow h (hread.trans ?_)
    rw [show (queued now ref d s).wge.latest.bind (targetGrams · t) = none from hg]
    rfl
  have hsome : ∀ grams, s.wge.latest.bind (targetGrams · t) = some grams →
      let point := loadPointOf s t declared.toNat (session.points.length + 1) grams
      run = .next (replied now ref code .done (.point point) (setSession (some (session.withPoint point)) s)) := fun grams hg => by
    let added := session.withPoint (loadPointOf s t declared.toNat (session.points.length + 1) grams)
    refine arrive_replied_refreshed (t := setSession (some added) s) (u := setSession (some added) (queued now ref d s))
      h (setSession_ready h _) (d := d) rfl (refreshLights_setSession_queued ..) (hread.trans ?_)
    rw [show (queued now ref d s).wge.latest.bind (targetGrams · t) = some grams from hg]
    rfl
  refine ⟨fun hl => hnone (by rw [hl]; rfl), ?_⟩
  intro r hr point
  rw [hr] at hnone hsome
  refine ⟨fun htb hst => hnone ?_, fun htb hst => hsome _ ?_, fun i hti => ⟨fun hv => hnone ?_, fun v f hv hstate hst hf => hsome f ?_⟩⟩
  · subst htb
    exact if_neg (by rw [hst]; decide)
  · subst htb
    exact if_pos hst
  · subst hti
    exact targetGrams_deck_none hv
  · subst hti
    exact (targetGrams_deck_some hv hstate hst).trans hf

/-! ## Reference points -/

section
variable {s : State} {cell : Byte} {session : Session} {check : ReferenceCheck}

theorem checkReference_bad (h : cell.toNat = 0 ∨ 16 < cell.toNat) : checkReference cell s = answer .badValue .nothing s := by
  rw [checkReference, nodeOf_none h]

theorem checkReference_closed (h1 : 1 ≤ cell.toNat) (h16 : cell.toNat ≤ 16) (hs : s.vfu.session = none) :
    checkReference cell s = answer .wrongState .nothing s := by
  rw [checkReference, nodeOf_some h1 h16]
  simp only [hs]

/-- The session with a check just begun (R182). -/
def Session.checked (n : Nat) (session : Session) : Session :=
  { session with check := some { cell := n, samples := 0, sum := 0, handoffs := 0 } }

/-- The check begins: the node is asked for REFERENCE (R182). -/
def checkBegun (n : Nat) (session : Session) (s : State) : State :=
  askMode n .reference (setSession (some (session.checked n)) s)

/-- CHECK_REFERENCE in an open session (R182). -/
theorem checkReference_open (h1 : 1 ≤ cell.toNat) (h16 : cell.toNat ≤ 16) (hs : s.vfu.session = some session) :
    checkReference cell s =
      if (!s.committed.pollList.contains cell.toNat) = true then answer .notFound .nothing s
      else if (!s.idle) = true then answer .busy .nothing s
      else if 12 ≤ session.points.length then answer .listFull .nothing s
      else holdQueue (checkBegun cell.toNat session s) := by
  rw [checkReference, nodeOf_some h1 h16]
  simp only [hs]
  rfl

/-- Fewer than eight samples at the 32nd handoff end the check (R183). -/
theorem ended_late (h : check.handoffs = 31) : ReferenceCheck.ended { check with handoffs := check.handoffs + 1 } = true := by
  simp [ReferenceCheck.ended, h]

theorem checkTimesOut_of (hs : s.vfu.session = some session) (hc : session.check = some check) :
    checkTimesOut s = if (decide (32 ≤ check.handoffs + 1) && decide (check.samples < 8)) = true then referenceCounts [] s else s := by
  simp only [checkTimesOut, hs, Option.bind_some, hc]

theorem checkTimesOut_late (hs : s.vfu.session = some session) (hc : session.check = some check) (hh : check.handoffs = 31)
    (h8 : check.samples < 8) :
    checkTimesOut s = judgeCheck session { check with handoffs := check.handoffs + 1 } s := by
  rw [checkTimesOut_of hs hc, if_pos (by simp [hh, h8])]
  simp only [referenceCounts, hs, hc, ReferenceCheck.take]
  exact if_pos (ended_late hh)

theorem checkTimesOut_early (hs : s.vfu.session = some session) (hc : session.check = some check)
    (h : check.handoffs < 31 ∨ 8 ≤ check.samples) : checkTimesOut s = s := by
  rw [checkTimesOut_of hs hc]
  exact if_neg (by simp; omega)

/-- The point of a check without enough samples (R184). -/
theorem referencePoint_missed {c : CalSet} {index : Nat} (h : check.samples < 8) :
    referencePoint c check index =
      { index := index
        pass := false
        body := .reference
          { cell := check.cell, samples := check.samples, mean := none, refCount := (c.cell check.cell).refCount
            tolerance := (c.cell check.cell).refTolerance, difference := none, noReference := true } } :=
  if_neg (Nat.not_le.2 h)

end

/-- The rows of CHECK_REFERENCE (R182). -/
theorem checkReference_rows (s : State) (now : Stamp) (ref cell : Byte) (h : s.ready) :
    let code : Byte := 0x21
    let n := cell.toNat
    let run := exec (.checkReference now ref cell) s
    (n = 0 ∨ 16 < n → run = .next (replied now ref code .badValue .nothing s)) ∧
    (1 ≤ n → n ≤ 16 → s.vfu.session = none → run = .next (replied now ref code .wrongState .nothing s)) ∧
    (∀ session, 1 ≤ n → n ≤ 16 → s.vfu.session = some session →
      (n ∉ s.committed.pollList → run = .next (replied now ref code .notFound .nothing s)) ∧
      (n ∈ s.committed.pollList → s.psu.passage ≠ none → run = .next (replied now ref code .busy .nothing s)) ∧
      (n ∈ s.committed.pollList → s.psu.passage = none → 12 ≤ session.points.length →
        run = .next (replied now ref code .listFull .nothing s)) ∧
      (n ∈ s.committed.pollList → s.psu.passage = none → session.points.length < 12 →
        run = .next (holding now ref (.checkReference cell) (checkBegun n session s)))) := by
  intro code n run
  let d : Directive := .checkReference cell
  have hrow : ∀ {st : Status}, checkReference cell (queued now ref d s) = answer st .nothing (queued now ref d s) →
      run = .next (replied now ref code st .nothing s) := fun hrun => arrive_replied h h (d := d) rfl hrun
  refine ⟨fun hb => hrow (checkReference_bad hb), fun h1 h16 hs => hrow (checkReference_closed (s := queued now ref d s) h1 h16 hs),
    fun session h1 h16 hs => ?_⟩
  have hopen := checkReference_open (s := queued now ref d s) h1 h16 hs
  have hpolled : n ∈ s.committed.pollList → ¬ (!s.committed.pollList.contains n) = true := fun hm => by simpa using hm
  have hunpolled : n ∉ s.committed.pollList → (!s.committed.pollList.contains n) = true := fun hm => by simpa using hm
  have hidle : s.psu.passage = none → ¬ (!s.idle) = true := fun hp => by simpa [idle_iff] using hp
  refine ⟨fun hm => hrow (hopen.trans (if_pos (hunpolled hm))),
    fun hm hp => hrow (hopen.trans ((if_neg (hpolled hm)).trans (if_pos ?_))),
    fun hm hp hl => hrow (hopen.trans ((if_neg (hpolled hm)).trans ((if_neg (hidle hp)).trans (if_pos hl)))),
    fun hm hp hl => ?_⟩
  · rw [Bool.not_eq_true', ← Bool.not_eq_true, idle_iff]
    exact hp
  · exact arrive_holding (t := checkBegun n session s) (u := checkBegun n session (queued now ref d s)) h (d := d) rfl rfl
      (hopen.trans ((if_neg (hpolled hm)).trans ((if_neg (hidle hp)).trans (if_neg (Nat.not_le.2 hl)))))

/-- Settles O57: the rows of the directive, its timeout as the end of what holds the queue, and the judgement by its samples. -/
theorem referenceIsChecked : Obligations.ReferenceIsChecked := by
  refine ⟨checkReference_rows, ?_, fun c check index h8 => if_pos h8⟩
  intro s now ref cell session check h hs hc cal point
  refine ⟨fun hh h8 => ?_, fun hn => ?_⟩
  · have hpoint : referencePoint s.committed { check with handoffs := check.handoffs + 1 } (session.points.length + 1) = point :=
      referencePoint_missed h8
    refine handle_answered (d := .checkReference cell)
      (t := setSession (some { session with points := session.points ++ [point], check := none }) (askMode check.cell .normal s)) h h ?_
    rw [checkTimesOut_late (s := atTime now s) hs hc hh h8, ← hpoint]
    rfl
  · exact handle_nothing (held_calm h) (checkTimesOut_early (s := atTime now s) hs hc hn)

/-! ## The certificate -/

section
variable {s : State} {session : Session}

theorem closeAudit_closed (hs : s.vfu.session = none) : closeAudit s = answer .wrongState .nothing s := by
  simp only [closeAudit, hs]

/-- The update of a certificate (R187). -/
def certificateUpdate (session : Session) (s : State) : Update :=
  .certificate (certificate session s) (auditSummary session).pass s.stc.store.calibration.newest

/-- CLOSE_AUDIT in an open session (R185). -/
theorem closeAudit_open (hs : s.vfu.session = some session) :
    closeAudit s =
      if s.stc.fault = true then answer .storeFault .nothing s
      else if (!s.cck.isSet) = true then answer .clockUnset .nothing s
      else if s.fillSlotPosted = true then answer .ringBlocked .nothing s
      else holdQueue (handUpdate (certificateUpdate session s) s) := by
  simp only [closeAudit, hs]
  rfl

end

/-- The rows of CLOSE_AUDIT (R185, R187). -/
theorem closeAudit_rows (s : State) (now : Stamp) (ref : Byte) (h : s.ready) :
    let code : Byte := 0x22
    let run := exec (.closeAudit now ref) s
    (s.vfu.session = none → run = .next (replied now ref code .wrongState .nothing s)) ∧
    (∀ session, s.vfu.session = some session →
      (s.stc.fault = true → run = .next (replied now ref code .storeFault .nothing s)) ∧
      (s.stc.fault = false → s.cck.isSet = false → run = .next (replied now ref code .clockUnset .nothing s)) ∧
      (s.stc.fault = false → s.cck.isSet = true → s.fillSlotPosted = true →
        run = .next (replied now ref code .ringBlocked .nothing s)) ∧
      (s.stc.fault = false → s.cck.isSet = true → s.fillSlotPosted = false →
        run = .next (holding now ref .closeAudit
          { s with stc := { s.stc with queue := s.stc.queue ++ [certificateUpdate session s] } }))) := by
  intro code run
  let d : Directive := .closeAudit
  have hrow : ∀ {st : Status}, closeAudit (queued now ref d s) = answer st .nothing (queued now ref d s) →
      run = .next (replied now ref code st .nothing s) := fun hrun => arrive_replied h h (d := d) rfl hrun
  refine ⟨fun hs => hrow (closeAudit_closed (s := queued now ref d s) hs), fun session hs => ?_⟩
  have hopen := closeAudit_open (s := queued now ref d s) hs
  have hclear : s.stc.fault = false → ¬ s.stc.fault = true := Bool.not_eq_true _ ▸ id
  have hunset : s.cck.isSet = false → (!s.cck.isSet) = true := fun hc => by rw [hc]; rfl
  have hset : s.cck.isSet = true → ¬ (!s.cck.isSet) = true := fun hc => by rw [hc]; decide
  refine ⟨fun hf => hrow (hopen.trans (if_pos hf)),
    fun hf hc => hrow (hopen.trans ((if_neg (hclear hf)).trans (if_pos (hunset hc)))),
    fun hf hc hb => hrow (hopen.trans ((if_neg (hclear hf)).trans ((if_neg (hset hc)).trans (if_pos hb)))),
    fun hf hc hb => ?_⟩
  have hheld := hopen.trans ((if_neg (hclear hf)).trans ((if_neg (hset hc)).trans (if_neg (Bool.not_eq_true _ ▸ hb))))
  rw [handUpdate_clear (s := queued now ref d s) _ hf] at hheld
  exact arrive_holding (t := { s with stc := { s.stc with queue := s.stc.queue ++ [certificateUpdate session s] } }) h (d := d) rfl
    (by rfl) hheld

/-! ## The summary -/

/-- The load points of a list. -/
def loadsOf (points : List Point) : List LoadPoint :=
  points.filterMap fun p => match p.body with
    | .load l => some l
    | .reference _ => none

theorem loadsOf_cons_load {p : Point} {l : LoadPoint} (h : p.body = .load l) (points : List Point) :
    loadsOf (p :: points) = l :: loadsOf points := by
  simp [loadsOf, h]

theorem loadsOf_cons_reference {p : Point} {r : ReferencePoint} (h : p.body = .reference r) (points : List Point) :
    loadsOf (p :: points) = loadsOf points := by
  simp [loadsOf, h]

theorem mem_loadsOf {l : LoadPoint} {points : List Point} : l ∈ loadsOf points ↔ ∃ p ∈ points, p.body = .load l := by
  rw [loadsOf, List.mem_filterMap]
  refine exists_congr fun p => and_congr_right fun _ => ?_
  cases p.body <;> simp

theorem isZero_iff {p : Point} : p.isZero = true ↔ ∃ l, p.body = .load l ∧ l.declared = 0 := by
  cases h : p.body <;> simp [Point.isZero, h]

theorem isLoad_load {p : Point} {l : LoadPoint} (h : p.body = .load l) : p.isLoad = decide (l.declared ≠ 0) := by
  rw [Point.isLoad, h, decide_not]
  rfl

theorem isLoad_reference {p : Point} {r : ReferencePoint} (h : p.body = .reference r) : p.isLoad = false := by
  rw [Point.isLoad, h]

theorem isLoad_count (points : List Point) :
    (points.filter (·.isLoad)).length = (loadsOf points).countP fun l => decide (l.declared ≠ 0) := by
  rw [← List.countP_eq_length_filter]
  induction points with
  | nil => rfl
  | cons p points ih =>
    cases h : p.body with
    | load l => rw [loadsOf_cons_load h, List.countP_cons, List.countP_cons, ih, isLoad_load h]
    | reference r => rw [loadsOf_cons_reference h, List.countP_cons, ih, isLoad_reference h]; rfl

section
variable {points : List Point}

theorem noZeroPoint_mem : .noZeroPoint ∈ failCauses points ↔ ¬ ∃ p ∈ points, ∃ l, p.body = .load l ∧ l.declared = 0 := by
  simp only [← isZero_iff]
  simp [failCauses]

theorem tooFewLoads_mem : .tooFewLoads ∈ failCauses points ↔ ¬ 2 ≤ (points.filter (·.isLoad)).length := by
  simp [failCauses]

theorem pointFailed_mem : .pointFailed ∈ failCauses points ↔ ¬ ∀ p ∈ points, p.pass = true := by
  simp [failCauses]

/-- A session passes when no cause fails it (R186). -/
theorem failCauses_empty :
    (failCauses points).isEmpty = true ↔
      .noZeroPoint ∉ failCauses points ∧ .tooFewLoads ∉ failCauses points ∧ .pointFailed ∉ failCauses points := by
  rw [List.isEmpty_iff, List.eq_nil_iff_forall_not_mem]
  exact ⟨fun h => ⟨h _, h _, h _⟩, fun ⟨hz, hl, hp⟩ c => by cases c <;> assumption⟩

end

/-! ## The worst error -/

/-- The worst error after a load point more. -/
def worse (worst : Option Int) (l : LoadPoint) : Option Int :=
  match worst with
  | none => some l.error
  | some w => if w.natAbs < l.error.natAbs then some l.error else some w

theorem worstError_eq (points : List Point) : worstError points = (loadsOf points).foldl worse none := by
  rw [worstError]
  generalize (none : Option Int) = worst
  induction points generalizing worst with
  | nil => rfl
  | cons p points ih =>
    cases h : p.body with
    | load l =>
      rw [loadsOf_cons_load h, List.foldl_cons, List.foldl_cons, ih, h]
      rfl
    | reference r =>
      rw [loadsOf_cons_reference h, List.foldl_cons, ih, h]

/-- x is the error of greatest magnitude in a list, the earliest where several share it (R186). -/
def IsWorst (loads : List LoadPoint) (x : Int) : Prop :=
  ∃ before l after, loads = before ++ l :: after ∧ l.error = x ∧
    (∀ y ∈ before, y.error.natAbs < x.natAbs) ∧ ∀ y ∈ after, y.error.natAbs ≤ x.natAbs

/-- No error of the list exceeds its worst. -/
theorem IsWorst.le {loads : List LoadPoint} {x : Int} (h : IsWorst loads x) : ∀ y ∈ loads, y.error.natAbs ≤ x.natAbs := by
  obtain ⟨before, l, after, rfl, rfl, hbefore, hafter⟩ := h
  intro y hy
  rcases List.mem_append.1 hy with hy | hy
  · exact (hbefore y hy).le
  · rcases List.mem_cons.1 hy with rfl | hy
    · exact le_rfl
    · exact hafter y hy

/-- A load point of greater magnitude than every one before it is the worst. -/
theorem isWorst_last {loads : List LoadPoint} {l : LoadPoint} (h : ∀ y ∈ loads, y.error.natAbs < l.error.natAbs) :
    IsWorst (loads ++ [l]) l.error :=
  ⟨loads, l, [], rfl, rfl, h, by simp⟩

/-- A load point of no greater magnitude leaves the worst as it is. -/
theorem IsWorst.keep {loads : List LoadPoint} {x : Int} {l : LoadPoint} (h : IsWorst loads x) (hl : l.error.natAbs ≤ x.natAbs) :
    IsWorst (loads ++ [l]) x := by
  obtain ⟨before, l₀, after, rfl, he, hbefore, hafter⟩ := h
  refine ⟨before, l₀, after ++ [l], by simp, he, hbefore, fun y hy => ?_⟩
  rcases List.mem_append.1 hy with hy | hy
  · exact hafter y hy
  · rwa [List.mem_singleton.1 hy]

theorem foldl_worse (loads : List LoadPoint) :
    (loads.foldl worse none = none ↔ loads = []) ∧ ∀ x, loads.foldl worse none = some x → IsWorst loads x := by
  induction loads using List.reverseRecOn with
  | nil => exact ⟨Iff.intro (fun _ => rfl) fun _ => rfl, fun x hx => nomatch hx⟩
  | append_singleton loads l ih =>
    obtain ⟨hnone, hsome⟩ := ih
    rw [List.foldl_append, List.foldl_cons, List.foldl_nil]
    cases hw : loads.foldl worse none with
    | none =>
      have hempty := hnone.1 hw
      subst hempty
      refine ⟨by simp [worse], fun x hx => ?_⟩
      cases hx
      exact isWorst_last (by simp)
    | some w =>
      have hworst := hsome w hw
      simp only [worse]
      split
      · next hlt =>
        refine ⟨by simp, fun x hx => ?_⟩
        cases hx
        exact isWorst_last fun y hy => (hworst.le y hy).trans_lt hlt
      · next hle =>
        refine ⟨by simp, fun x hx => ?_⟩
        cases hx
        exact hworst.keep (Nat.not_lt.1 hle)

/-- Settles O58: the rows, the verdict by its three causes, and the worst error as a fold over the load points. -/
theorem auditIsClosed : Obligations.AuditIsClosed := by
  refine ⟨closeAudit_rows, fun session => ?_, fun session => ?_⟩
  · intro loads
    have hloads : session.points.filter (·.isLoad) = loads := List.filter_congr fun ⟨_, _, body⟩ _ => by
      cases body with
      | load l => exact isLoad_load rfl
      | reference r => exact isLoad_reference rfl
    refine failCauses_empty.trans ?_
    rw [noZeroPoint_mem, tooFewLoads_mem, pointFailed_mem, not_not, not_not, not_not, hloads]
  · intro a loads
    have hcount : a.passCount = session.points.countP fun p => p.pass := (List.countP_eq_length_filter ..).symm
    have hworst : a.worstError = loads.foldl worse none := worstError_eq session.points
    refine ⟨noZeroPoint_mem.trans ?_, tooFewLoads_mem.trans ?_, pointFailed_mem.trans ?_, rfl, hcount, ?_, rfl, ?_, ?_⟩
    · simp only [show loads = loadsOf session.points from rfl, mem_loadsOf]
      grind
    · rw [isLoad_count, Nat.not_le]
      exact Iff.rfl
    · simp
    · exact (List.length_eq_length_filter_add _).symm
    · rw [hworst]
      exact (foldl_worse loads).1
    · rw [hworst]
      exact (foldl_worse loads).2

end Sys2Proof.Machine
end

section
/-! SUPPORT. The end of a store update (R213, R214): what a completion and a failure write, send and answer. -/

namespace Sys2Proof.Machine

/-! ## What follows an update's end -/

/-- Outside HALTING the end of an update polls nothing. -/
theorem haltGoesOn_running {s : State} (h : s.rnc.runState ≠ .halting) : haltGoesOn s = s :=
  if_neg (by simp [h])

section
variable {s : State} {w : HoldReason} {p : Passage}

/-- No passage waits for the end of the condition. -/
theorem waitEnded_unawaited (h : ∀ p, s.psu.passage = some p → w ∉ p.holds) : waitEnded w s = s := by
  simp only [waitEnded]
  split
  · next p hp => exact if_neg (by simpa using h p hp)
  · rfl

/-- A passage that waits for it asks again (R122). -/
theorem waitEnded_awaited (hp : s.psu.passage = some p) (h : w ∈ p.holds) :
    waitEnded w s = judgeAfterRemoval { p with holds := dropHold w p.holds } s := by
  simp only [waitEnded, hp]
  exact if_pos (by simpa using h)

theorem judgeAfterRemoval_accepted (h : requestOutcome s p = .accepted) : judgeAfterRemoval p s = issueTicket p s := by
  rw [judgeAfterRemoval, h]

/-- The passage is replaced and the change of its hold set reported (R120). -/
def holdChanged (p : Passage) (q : Passage) (s : State) : State :=
  report (some p.state) (some p.state) .holdChange none q (setPassage q s)

theorem judgeAfterRemoval_notMade (h : requestOutcome s p = .notMade) : judgeAfterRemoval p s = holdChanged p p s := by
  rw [judgeAfterRemoval, h]
  rfl

theorem judgeAfterRemoval_refused {r : HoldReason} (h : requestOutcome s p = .refused r) :
    judgeAfterRemoval p s = holdChanged p { p with holds := addHold r p.holds } (holdChanged p p s) := by
  rw [judgeAfterRemoval, h]
  rfl

theorem handUpdate_atTime (now : Stamp) (u : Update) (s : State) : handUpdate u (atTime now s) = atTime now (handUpdate u s) :=
  (apply_ite (atTime now) (s.stc.fault = true) s { s with stc := { s.stc with queue := s.stc.queue ++ [u] } }).symm

/-- The issue of a ticket does not read the timebase. -/
theorem issueTicket_atTime (now : Stamp) (p : Passage) (s : State) : issueTicket p (atTime now s) = atTime now (issueTicket p s) := by
  simp only [issueTicket]
  split
  · rw [handUpdate_atTime]
    rfl
  · rfl

/-- The judgement of a request does not read the timebase. -/
theorem judgeAfterRemoval_atTime (now : Stamp) (p : Passage) (s : State) :
    judgeAfterRemoval p (atTime now s) = atTime now (judgeAfterRemoval p s) := by
  have hsame : requestOutcome (atTime now s) p = requestOutcome s p := rfl
  cases h : requestOutcome s p with
  | accepted =>
    rw [judgeAfterRemoval_accepted h, judgeAfterRemoval_accepted (hsame.trans h), issueTicket_atTime]
  | notMade =>
    rw [judgeAfterRemoval_notMade h, judgeAfterRemoval_notMade (hsame.trans h)]
    rfl
  | refused r =>
    rw [judgeAfterRemoval_refused h, judgeAfterRemoval_refused (hsame.trans h)]
    rfl

end

/-- The answer to a directive that holds the queue. -/
theorem answerHeld_atTime {t : State} {ref : Byte} {d : Directive} (h : t.held ref d) (now : Stamp) (st : Status) (r : Result) :
    answerHeld st r (atTime now t) = atTime now (replyTo ref d.code st r (freed t)) :=
  answerHeld_only (s := atTime now t) st r h.2.1 h.2.2

/-! ## The change of the store -/

/-- The completion of the oldest update makes its change of the store and no other (R213). -/
theorem completion_store {s t : State} {now : Stamp} {u : Update} {rest : List Update} (hp : s.powered = true)
    (hq : s.stc.queue = u :: rest) (h : exec (.storeUpdateComplete now) s = .next t) : t.stc.store = u.apply s.stc.store := by
  obtain ⟨-, hstore, -⟩ := updateComplete_keeps (s := atTime now s) hq
  have hk : Keeps (updateComplete (atTime now s)) (finish (haltGoesOn (updateComplete (atTime now s)))) :=
    keeps_finish (keeps_haltGoesOn (Keeps.refl _))
  have ht : t = finish (haltGoesOn (updateComplete (atTime now s))) :=
    (Host.Outcome.next.inj ((congrArg Host.Outcome.next (if_pos hp)).symm.trans h)).symm
  rw [ht]
  exact hk.store.trans hstore

theorem updateComplete_none {s : State} (hq : s.stc.queue = []) : updateComplete s = s := by
  simp only [updateComplete, hq]

/-! ## The end of a wait behind a reply -/

section
variable {s t : State} {now : Stamp} {ref : Byte} {d : Directive} {w : HoldReason} {p : Passage}

/-- A completion that leaves the directive queue alone. -/
theorem completion_calm (h : s.calm) (hr : t.rnc.runState ≠ .halting) (hq : SameQueue s t)
    (hu : updateComplete (atTime now s) = atTime now t) : exec (.storeUpdateComplete now) s = .next (taken now t) := by
  obtain ⟨-, hc, hd, hx⟩ := hq
  exact handle_calm (effect := fun s => haltGoesOn (updateComplete s)) h ((congrArg haltGoesOn hu).trans (haltGoesOn_running hr))
    (hc.trans h.1.2) hd hx

/-- A completion that answers its directive, and no passage waits for what it ends. -/
theorem completion_answered (h : s.held ref d) (hr : t.rnc.runState ≠ .halting) (hc : t.stc.checking = false)
    (hd : t.tli.directives = []) (hu : updateComplete (atTime now s) = atTime now t) :
    exec (.storeUpdateComplete now) s = .next (taken now t) :=
  handle_held (effect := fun s => haltGoesOn (updateComplete s)) h ((congrArg haltGoesOn hu).trans (haltGoesOn_running hr)) hc hd

/-- A completion that answers its directive, behind which the passage that waits for its end asks again. -/
theorem completion_asks (h : s.held ref d) (hr : t.rnc.runState ≠ .halting) (hc : t.stc.checking = false)
    (hd : t.tli.directives = []) (hp : t.psu.passage = some p) (hw : w ∈ p.holds)
    (hu : updateComplete (atTime now s) = waitEnded w (atTime now t)) :
    exec (.storeUpdateComplete now) s = .next (taken now (judgeAfterRemoval { p with holds := dropHold w p.holds } t)) := by
  let q : Passage := { p with holds := dropHold w p.holds }
  have hjudged : updateComplete (atTime now s) = atTime now (judgeAfterRemoval q t) :=
    hu.trans ((waitEnded_awaited (s := atTime now t) hp hw).trans (judgeAfterRemoval_atTime now q t))
  obtain ⟨-, hchecking, hdirectives, -⟩ := silent_judgeAfterRemoval (p := q) (sameQueue_silent t) (SameQueue.refl t)
  have hrun : (judgeAfterRemoval q t).rnc = t.rnc := silent_judgeAfterRemoval (silent_rnc t.rnc) rfl
  exact completion_answered h (hrun ▸ hr) (hchecking.trans hc) (hdirectives.trans hd) hjudged

end

/-! ## Release and purge -/

section
variable {s : State} {now : Stamp} {ref : Byte}

/-- The part with the slot of a released ticket free (R148). -/
def slotFreed (i : Nat) (s : State) : State :=
  { s with stc := { s.stc with
    store := { s.stc.store with ticket := { s.stc.store.ticket with ring := s.stc.store.ticket.ring.set i none } }
    queue := [] } }

theorem updateComplete_frees {number : BitVec 32} {i : Nat} (hq : s.stc.queue = [.release number])
    (hi : s.stc.store.ticket.slotOf number = some i) :
    updateComplete s = releaseDone i s.stc.store.ticket.fill (slotFreed i s) := by
  rw [updateComplete_release hq, written, Update.apply, TicketArea.free, hi]
  rfl

/-- The reply of a release (R149). -/
def releaseAnswered (ref : Byte) (i : Nat) (s : State) : State :=
  replyTo ref 0x15 .done (.released i ((s.stc.store.ticket.ring.set i none).countP fun slot => slot.isSome)) (freed (slotFreed i s))

theorem releaseDone_answered {number : BitVec 32} {i fill : Nat} (h : s.held ref (.releaseTicket number)) :
    releaseDone i fill (atTime now (slotFreed i s)) =
      if i = fill then waitEnded .ringBlocked (atTime now (releaseAnswered ref i s)) else atTime now (releaseAnswered ref i s) := by
  have hheld : (slotFreed i s).held ref (.releaseTicket number) := h
  rw [releaseDone, answerHeld_atTime hheld, releaseAnswered, List.countP_eq_length_filter]
  rfl

/-- The part with an open entry purged (R131). -/
def entryPurged (tag : Tag) (s : State) : State :=
  { s with stc := { s.stc with
    store := { s.stc.store with transaction := { s.stc.store.transaction with
      table := removeOpen tag s.stc.store.transaction.table, purgeCount := s.stc.store.transaction.purgeCount + 1 } }
    queue := [] } }

theorem updateComplete_purges {tag : Tag} {e : OpenEntry} (hq : s.stc.queue = [.purge tag])
    (he : findOpen tag s.stc.store.transaction.table = some e) :
    updateComplete s =
      purgeDone (some e) (roomMade s.stc.store (entryPurged tag s).stc.store) (entryPurged tag s) := by
  rw [updateComplete_purge hq, written, Update.apply, TransactionArea.purge, he]
  rfl

/-- The reply of a purge (R132). -/
def purgeAnswered (ref : Byte) (e : OpenEntry) (tag : Tag) (s : State) : State :=
  replyTo ref 0x18 .done
    (.transaction (some e) (entryPurged tag s).stc.store.transaction.table.length (entryPurged tag s).counters)
    (freed (entryPurged tag s))

theorem purgeDone_answered {tag : Tag} {e : OpenEntry} {made : Bool} (h : s.held ref (.purgeTransaction tag)) :
    purgeDone (some e) made (atTime now (entryPurged tag s)) =
      if made = true then waitEnded .tableFull (atTime now (purgeAnswered ref e tag s)) else atTime now (purgeAnswered ref e tag s) := by
  have hheld : (entryPurged tag s).held ref (.purgeTransaction tag) := h
  rw [purgeDone, answerHeld_atTime hheld]
  rfl

/-- The change makes room in a full table (R136). -/
theorem roomMade_iff {before after : Store} :
    roomMade before after = true ↔ before.transaction.table.length = 64 ∧ after.transaction.table.length = 63 := by
  simp [roomMade, Config.transactionCapacity]

end

/-! ## Two deliveries in a free order -/

/-- The counter of free orders after one delivery more (log 8). -/
def delivered (s : State) : State := { s with freeCount := s.freeCount + 1 }

/-- Two deliveries are made in one order or the other. -/
theorem inAnyOrder_pair (a b : State → State) (s : State) :
    inAnyOrder true [a, b] s = b (delivered (a (delivered s))) ∨ inAnyOrder true [a, b] s = a (delivered (b (delivered s))) := by
  have hlt : Config.nextDelivery s.freeCount % 2 < 2 := Nat.mod_lt _ (by decide)
  simp only [inAnyOrder, if_true, List.length_cons, List.length_nil, Nat.zero_add, takeDeliveries, delivered]
  generalize Config.nextDelivery s.freeCount % 2 = i at hlt ⊢
  match i, hlt with
  | 0, _ => exact .inl (by simp [Nat.mod_one])
  | 1, _ => exact .inr (by simp [Nat.mod_one])

/-! ## Tickets -/

section
variable {s : State} {now : Stamp} {record : Ticket} {e : OpenEntry} {p : Passage} {number : BitVec 16}

/-- A next number other than 0 sets no flag (R140). -/
theorem spendNumbers_left {before : Bool} (h : s.stc.store.ticket.next ≠ 0) : spendNumbers before s = s :=
  if_neg (by rw [Bool.and_eq_true, decide_eq_true_eq]; exact fun hspent => h hspent.1)

/-- The part with a FIRST ticket posted and its entry open (R141). -/
def ticketPosted (record : Ticket) (e : OpenEntry) (s : State) : State :=
  { s with stc := { s.stc with
    store := { s.stc.store with
      ticket := s.stc.store.ticket.post record
      transaction := { s.stc.store.transaction with
        table := insertOpen e s.stc.store.transaction.table, firstCount := s.stc.store.transaction.firstCount + 1 } }
    queue := [] } }

/-- The deliveries of a FIRST ticket: the NEW frame and the passage (R143). -/
theorem updateComplete_posts {passage : Option (BitVec 16)} (hq : s.stc.queue = [.ticket record (.insert e) passage])
    (hn : s.stc.store.ticket.next + 1#32 ≠ 0) :
    updateComplete s =
      inAnyOrder s.psu.passage.isSome
        [offer (.ticket false s.stc.store.ticket.fill record), issueCompleted passage record.number] (ticketPosted record e s) := by
  have hroom : roomMade s.stc.store (ticketPosted record e s).stc.store = false := by
    rw [← Bool.not_eq_true, roomMade_iff]
    rintro ⟨hbefore, hafter⟩
    have hafter : (insertOpen e s.stc.store.transaction.table).length = 63 := hafter
    rw [insertOpen_length] at hafter
    omega
  rw [updateComplete_ticket hq]
  refine (congrArg (ticketDone record _ passage _) (spendNumbers_left (s := ticketPosted record e s) hn)).trans ?_
  refine (congrArg (fun made => ticketDone record _ passage made (ticketPosted record e s)) hroom).trans rfl

/-- The passage whose ticket has been posted (R124). -/
def Passage.posted (number : BitVec 32) (p : Passage) : Passage := { p with state := .done, ticket := some number }

/-- The passage goes to DONE, reported. -/
def passagePosted (number : BitVec 32) (p : Passage) (s : State) : State :=
  report (some .issuing) (some .done) .posted none (p.posted number) (setPassage (p.posted number) s)

theorem issueCompleted_of {n : BitVec 32} (hp : s.psu.passage = some p) (hi : p.state = .issuing) :
    issueCompleted (some p.number) n s =
      if p.runThrough = true then toLeaving .runThrough none (p.posted n) (passagePosted n p s) else passagePosted n p s := by
  simp only [issueCompleted, hp]
  exact if_pos (by simp [hi])

/-- A passage that has not run through stays in DONE. -/
theorem issueCompleted_stays {n : BitVec 32} (hp : s.psu.passage = some p) (hi : p.state = .issuing) (hr : p.runThrough = false) :
    issueCompleted (some p.number) n s = passagePosted n p s :=
  (issueCompleted_of hp hi).trans (if_neg (by rw [hr]; decide))

/-- The passage goes to DONE and on to LEAVING, reported. -/
def passageGone (number : BitVec 32) (p : Passage) (s : State) : State :=
  report (some .done) (some .leaving) .runThrough none { p.posted number with state := .leaving }
    { passagePosted number p s with
      psu := { s.psu with passage := some { p.posted number with state := .leaving }, captureTimer := none } }

/-- A passage that has run through goes on to LEAVING (R109). -/
theorem issueCompleted_leaves {n : BitVec 32} (hp : s.psu.passage = some p) (hi : p.state = .issuing) (hr : p.runThrough = true)
    (hx : s.ylu.exitLoop.accepted ≠ some false) : issueCompleted (some p.number) n s = passageGone n p s := by
  rw [issueCompleted_of hp hi, if_pos hr]
  exact toLeaving_stays (s := passagePosted n p s) (p := p.posted n) hx

/-- The NEW frame and the passage's end of issuing, in one order or the other (R143, log 8). -/
theorem updateComplete_either {f : State → State} (hq : s.stc.queue = [.ticket record (.insert e) (some p.number)])
    (hn : s.stc.store.ticket.next + 1#32 ≠ 0) (hp : s.psu.passage = some p)
    (hf : ∀ x, x.psu.passage = s.psu.passage → x.ylu = s.ylu → issueCompleted (some p.number) record.number x = f x) :
    let sent : Frame := .ticket false s.stc.store.ticket.fill record
    updateComplete s = offer sent (delivered (f (delivered (ticketPosted record e s)))) ∨
      updateComplete s = f (delivered (offer sent (delivered (ticketPosted record e s)))) := by
  intro sent
  rw [updateComplete_posts hq hn, show s.psu.passage.isSome = true by rw [hp]; rfl,
    ← hf (delivered (ticketPosted record e s)) rfl rfl, ← hf (delivered (offer sent (delivered (ticketPosted record e s)))) rfl rfl]
  exact (inAnyOrder_pair ..).symm

end

/-! ## Commits -/

/-- The counter of free orders plays no part in a change of the set in use. -/
theorem setChanged_delivered (old : CalSet) (reload : Bool) (s : State) :
    setChanged old reload (delivered s) = delivered (setChanged old reload s) := by
  simp only [setChanged, axlesUnder, apply_ite delivered]
  rfl

theorem answer_delivered (st : Status) (r : Result) (s : State) : answer st r (delivered s) = delivered (answer st r s) := by
  cases h : s.tli.directives with
  | nil => simp only [answer, delivered, h]
  | cons q rest => rw [answer_cons st r h, answer_cons (s := delivered s) st r h]; rfl

/-- The counter of free orders plays no part in the reply of a commit. -/
theorem replyCommit_delivered (k : Nat) (s : State) : replyCommit k (delivered s) = delivered (replyCommit k s) := by
  simp only [replyCommit, answerHeld, answer_delivered]
  exact (apply_ite delivered _ _ _).symm

section
variable {s : State} {now : Stamp} {ref : Byte} {set : CalSet} {entries : List TrailEntry}

theorem mem_addReason_self (r : TradeReason) (reasons : List TradeReason) : r ∈ addReason r reasons := by
  cases r <;> simp [addReason, allReasons]

/-- A stored reason keeps the status from VERIFIED; where the stored reasons cannot be read, NEVER_VERIFIED does (R173, R215). -/
theorem verified_of_stored {s : State} {r : TradeReason} (h : r ∈ s.stc.store.reasons) (hr : r ≠ .storeFault) : s.verified = false := by
  rw [← Bool.not_eq_true, verified_iff]
  cases hd : s.stc.damaged.status with
  | true =>
    have hnever : .neverVerified ∈ s.reasonSet := List.mem_filter.2 ⟨by simp [allReasons], by simp [State.storedReasons, hd]⟩
    exact List.ne_nil_of_mem hnever
  | false =>
    have hmem : r ∈ s.reasonSet := List.mem_filter.2 ⟨by cases r <;> simp [allReasons], by
      cases r with
      | storeFault => exact absurd rfl hr
      | neverVerified | calibrationChanged | auditFailed | zeroLimit => simp [State.storedReasons, hd, h]⟩
    exact List.ne_nil_of_mem hmem

/-- The part with a commit written and calibration mode over (R163, R164). -/
def commitTaken (set : CalSet) (entries : List TrailEntry) (s : State) : State :=
  { s with
    clu := { staged := none, openingRecorded := false }
    stc := { s.stc with store := (Update.commit set entries).apply s.stc.store, queue := [] } }

/-- A commit leaves the status NOT_VERIFIED (R174). -/
theorem commitTaken_verified (old : CalSet) : (setChanged old true (commitTaken set entries s)).verified = false := by
  rw [setChanged_eq]
  exact verified_of_stored (s := commitTaken set entries s) (mem_addReason_self .calibrationChanged _) (by decide)

/-- The end of a commit in a part that was NOT_VERIFIED already: the set in use changes, and the reply is offered. -/
theorem updateComplete_commits (hq : s.stc.queue = [.commit set entries]) (hv : s.verified = false) :
    updateComplete s =
        replyCommit entries.length (delivered (delivered (setChanged s.setInUse true (commitTaken set entries s)))) := by
  rw [updateComplete_commit hq, hv]
  have hsame : ∀ x : State, x.verified = false → statusChange .commit false x = x := fun x hx => if_pos hx
  let taken := setChanged s.setInUse true (commitTaken set entries s)
  have hcommon : taken.verified = false := commitTaken_verified s.setInUse
  rcases inAnyOrder_pair (statusChange .commit false) (replyCommit entries.length) taken with ho | ho
  · refine ho.trans ?_
    rw [hsame (delivered taken) hcommon]
  · refine ho.trans ((hsame _ ?_).trans (replyCommit_delivered ..).symm)
    rw [replyCommit, answerHeld_eq]
    exact hcommon

/-- The reply of COMMIT_CAL to the directive that holds the queue (R164). -/
theorem replyCommit_held {t : State} {k : Nat} (h : t.held ref .commitCal) :
    replyCommit k (atTime now t) =
      atTime now (replyTo ref 0x1C .done
        (.committed t.stc.store.calibration.count k (t.stc.store.calibration.newest + 1 - k) t.stc.store.calibration.newest t.unaudited)
        (freed t)) :=
  answerHeld_atTime h ..

end

/-! ## Deliveries that each leave their mark -/

/-- In deliveries made once each, in any order: `P n` holds with n of them left to make, and what one of them brings about stands
after them all where none of them takes it away. -/
theorem takeDeliveries_brings {P : Nat → State → Prop} {Q : State → Prop} {b : State → State}
    (hdelivered : ∀ n s, P n s → P n (delivered s)) (hkeeps : ∀ s, Q s → Q (delivered s)) (n : Nat) (acts : List (State → State))
    (s : State) (hlen : acts.length = n) (hacts : ∀ a ∈ acts, ∀ n s, P (n + 1) s → P n (a s) ∧ (Q s → Q (a s)))
    (hb : b ∈ acts → ∀ n s, P (n + 1) s → Q (b s)) (hs : P n s) (hq : b ∈ acts ∨ Q s) :
    P 0 (takeDeliveries n acts s) ∧ Q (takeDeliveries n acts s) := by
  induction n generalizing acts s with
  | zero =>
    rw [List.length_eq_zero_iff] at hlen
    subst hlen
    exact ⟨hs, hq.resolve_left List.not_mem_nil⟩
  | succ n ih =>
    have hlt : Config.nextDelivery s.freeCount % acts.length < acts.length := Nat.mod_lt _ (by omega)
    simp only [takeDeliveries]
    generalize Config.nextDelivery s.freeCount % acts.length = i at hlt ⊢
    rw [List.getElem?_eq_getElem hlt]
    have hsub : ∀ a ∈ acts.eraseIdx i, a ∈ acts := fun a ha => List.mem_of_mem_eraseIdx ha
    have hs := hdelivered _ _ hs
    obtain ⟨hP, hQ⟩ := hacts _ (List.getElem_mem hlt) n _ hs
    refine ih (acts.eraseIdx i) _ (by rw [List.length_eraseIdx_of_lt hlt, hlen]; rfl) (fun a ha => hacts a (hsub a ha))
      (fun ha => hb (hsub b ha)) hP ?_
    rcases hq with hmem | hq
    · obtain ⟨j, hj, rfl⟩ := List.getElem_of_mem hmem
      by_cases hji : j = i
      · subst hji
        exact .inr (hb hmem n _ hs)
      · exact .inl (List.mem_eraseIdx_iff_getElem.2 ⟨j, hj, hji, rfl⟩)
    · exact .inr (hQ (hkeeps _ hq))

/-! ## What joins the class A queue of a busy transmitter -/

/-- The class A queue keeps its frames and takes at most k more, with the transmitter as it was. -/
structure Grown (k : Nat) (t u : Tli) : Prop where
  sending : u.sending = t.sending
  room : u.classA.length ≤ t.classA.length + k
  kept : ∀ f ∈ t.classA, f ∈ u.classA

theorem Grown.refl (t : Tli) : Grown 0 t t := ⟨rfl, le_rfl, fun _ h => h⟩

theorem Grown.mono {k l : Nat} {t u : Tli} (h : Grown k t u) (hl : k ≤ l) : Grown l t u := ⟨h.1, h.2.trans (by omega), h.3⟩

theorem Grown.trans {k l : Nat} {t u v : Tli} (h : Grown k t u) (h' : Grown l u v) : Grown (k + l) t v :=
  ⟨h'.sending.trans h.sending, by have := h.room; have := h'.room; omega, fun f hf => h'.kept f (h.kept f hf)⟩

theorem grown_offer {t : Tli} {g : Frame} (hs : t.sending = some g) (f : Frame) : Grown 1 t (t.offer f) := by
  by_cases hr : t.classA.length < 24
  · rw [offer_joins f hs hr]
    exact ⟨rfl, by simp, fun x hx => List.mem_append_left _ hx⟩
  · rw [offer_drops f hs hr]
    exact ⟨rfl, Nat.le_succ _, fun x hx => hx⟩

/-- A frame that finds room joins. -/
theorem mem_offer {t : Tli} {g : Frame} (hs : t.sending = some g) (f : Frame) (hr : t.classA.length < 24) : f ∈ (t.offer f).classA := by
  rw [offer_joins f hs hr]
  simp

section
variable {s : State} {g : Frame} {p : Passage} {w : HoldReason}

theorem grown_judgeAfterRemoval (hs : s.tli.sending = some g) : Grown 2 s.tli (judgeAfterRemoval p s).tli := by
  cases h : requestOutcome s p with
  | accepted =>
    rw [judgeAfterRemoval_accepted h, issueTicket]
    split
    · rw [handUpdate]
      split
      · exact (grown_offer hs _).mono (by decide)
      · exact (grown_offer hs _).mono (by decide)
    · exact (Grown.refl _).mono (by decide)
  | notMade =>
    rw [judgeAfterRemoval_notMade h]
    exact (grown_offer hs _).mono (by decide)
  | refused r =>
    rw [judgeAfterRemoval_refused h]
    have hfirst : Grown 1 s.tli (holdChanged p p s).tli := grown_offer hs _
    exact hfirst.trans (grown_offer (hfirst.sending.trans hs) _)

theorem grown_waitEnded (hs : s.tli.sending = some g) : Grown 2 s.tli (waitEnded w s).tli := by
  simp only [waitEnded]
  split
  · split
    · exact grown_judgeAfterRemoval hs
    · exact (Grown.refl _).mono (by decide)
  · exact (Grown.refl _).mono (by decide)

theorem grown_statusChange {cause : TradeCause} {before : Bool} (hs : s.tli.sending = some g) :
    Grown 3 s.tli (statusChange cause before s).tli := by
  simp only [statusChange]
  split
  · exact (Grown.refl _).mono (by decide)
  · have hevent : Grown 1 s.tli (raise (.tradeStatusChanged s.verified s.reasonSet s.vfu.zeroLimitPending cause) s).tli := grown_offer hs _
    split
    · exact hevent.trans (grown_waitEnded (hevent.sending.trans hs))
    · exact hevent.mono (by decide)

end

/-! ## What a change of the trade status writes -/

/-- The state with another passage, queue of updates and link. -/
def asked (psu : Psu) (queue : List Update) (t : Tli) (s : State) : State :=
  { s with psu := psu, stc := { s.stc with queue := queue }, tli := t }

section
variable {s : State}

theorem issueTicket_writes (p : Passage) : ∃ psu queue t, issueTicket p s = asked psu queue t s := by
  rw [issueTicket]
  split
  · rw [handUpdate]
    split
    · exact ⟨_, _, _, rfl⟩
    · exact ⟨_, _, _, rfl⟩
  · exact ⟨s.psu, s.stc.queue, s.tli, rfl⟩

theorem waitEnded_writes (w : HoldReason) : ∃ psu queue t, waitEnded w s = asked psu queue t s := by
  have hnone : ∃ psu queue t, s = asked psu queue t s := ⟨s.psu, s.stc.queue, s.tli, rfl⟩
  rw [waitEnded]
  split
  · next p hp =>
    split
    · cases h : requestOutcome s { p with holds := dropHold w p.holds } with
      | accepted =>
        rw [judgeAfterRemoval_accepted h]
        exact issueTicket_writes _
      | notMade =>
        rw [judgeAfterRemoval_notMade h]
        exact ⟨_, s.stc.queue, _, rfl⟩
      | refused r =>
        rw [judgeAfterRemoval_refused h]
        exact ⟨_, s.stc.queue, _, rfl⟩
    · exact hnone
  · exact hnone

theorem statusChange_writes (cause : TradeCause) (before : Bool) : ∃ psu queue t, statusChange cause before s = asked psu queue t s := by
  rw [statusChange]
  split
  · exact ⟨s.psu, s.stc.queue, s.tli, rfl⟩
  · dsimp only
    split
    · obtain ⟨psu, queue, t, h⟩ := waitEnded_writes
        (s := raise (.tradeStatusChanged s.verified s.reasonSet s.vfu.zeroLimitPending cause) s) .notVerified
      exact ⟨psu, queue, t, h⟩
    · exact ⟨_, s.stc.queue, _, rfl⟩

end

/-! ## Certificates -/

/-- A deck under the zeros of a passed audit (R188). -/
def Deck.audited (d : Deck) : Deck := { d with initialZero := d.initialZero.map fun _ => d.zero, zeroLimit := false }

theorem audited_twice (decks : List (Option Deck)) :
    (decks.map (Option.map Deck.audited)).map (Option.map Deck.audited) = decks.map (Option.map Deck.audited) := by
  rw [List.map_map]
  refine List.map_congr_left fun o _ => ?_
  cases o with
  | none => rfl
  | some d => exact congrArg some (by simp [Deck.audited, Function.comp_def])

/-- CLOSE_AUDIT holds the directive queue, or has left it with its reply in the class A queue. -/
def Answering (ref : Byte) (reply : Frame) (t : Tli) : Prop :=
  t.directives = [⟨ref, .closeAudit⟩] ∧ t.executing = true ∨ t.directives = [] ∧ t.executing = false ∧ reply ∈ t.classA

/-- Between the deliveries of a certificate, with n of them left: the class A queue has room, CLOSE_AUDIT is answered or yet to be,
and the decks are as they were or under the passed audit's zeros. -/
structure Certifying (s : State) (ref : Byte) (reply : Frame) (before : Bool) (n : Nat) (x : State) : Prop where
  sending : ∃ g, x.tli.sending = some g
  room : x.tli.classA.length + 3 * n ≤ 25 ∨ x.stc.fault = true ∧ before = false ∧ x.tli.classA.length + n ≤ 23
  line : Answering ref reply x.tli
  checking : x.stc.checking = false
  rnc : x.rnc = s.rnc
  decks : x.wge.decks.map (Option.map Deck.audited) = s.wge.decks.map (Option.map Deck.audited)

section
variable {s x y : State} {ref : Byte} {reply : Frame} {before : Bool} {n : Nat}

theorem Certifying.room_left (h : Certifying s ref reply before (n + 1) x) : x.tli.classA.length < 24 := by
  rcases h.room with hr | ⟨-, -, hr⟩ <;> omega

/-- A delivery of at most three frames, or of one where the fault flag has just been set (R140). -/
theorem Certifying.next {k : Nat} (h : Certifying s ref reply before (n + 1) x) (hg : Grown k x.tli y.tli) (hk : k ≤ 3)
    (hf : x.stc.fault = true → before = false → k ≤ 1) (hl : Answering ref reply y.tli) (hfault : y.stc.fault = x.stc.fault)
    (hc : y.stc.checking = x.stc.checking) (hr : y.rnc = x.rnc)
    (hd : y.wge.decks.map (Option.map Deck.audited) = x.wge.decks.map (Option.map Deck.audited)) :
    Certifying s ref reply before n y where
  sending := h.sending.imp fun _ hs => hg.sending.trans hs
  room := by
    have hroom := hg.room
    rcases h.room with hfree | ⟨hset, hbefore, hfree⟩
    · exact .inl (by omega)
    · have hone := hf hset hbefore
      exact .inr ⟨hfault.trans hset, hbefore, by omega⟩
  line := hl
  checking := hc.trans h.checking
  rnc := hr.trans h.rnc
  decks := hd.trans h.decks

theorem certifying_delivered (h : Certifying s ref reply before n x) : Certifying s ref reply before n (delivered x) :=
  ⟨h.sending, h.room, h.line, h.checking, h.rnc, h.decks⟩

/-- Frames that join leave the directive's answer as it is. -/
theorem Answering.grown {k : Nat} {t u : Tli} (h : Answering ref reply t) (hg : Grown k t u) (hd : u.directives = t.directives)
    (hx : u.executing = t.executing) : Answering ref reply u := by
  rw [Answering, hd, hx]
  exact h.imp_right fun ⟨hd, hx, hmem⟩ => ⟨hd, hx, hg.kept _ hmem⟩

/-- The TICKET frame. -/
theorem certifying_offer (h : Certifying s ref reply before (n + 1) x) (f : Frame) :
    Certifying s ref reply before n (offer f x) ∧ Grown 1 x.tli (offer f x).tli ∧ f ∈ (offer f x).tli.classA := by
  obtain ⟨g, hs⟩ := h.sending
  obtain ⟨hdirectives, hexecuting, -⟩ := offer_keeps x.tli f
  have hgrown := grown_offer hs f
  exact ⟨h.next hgrown (by decide) (fun _ _ => le_rfl) (h.line.grown hgrown hdirectives hexecuting) rfl rfl rfl rfl, hgrown,
    mem_offer hs f h.room_left⟩

/-- The reply of CLOSE_AUDIT; where it stands already, there is no directive to answer. -/
theorem certifying_reply {st : Status} {r : Result} (h : Certifying s ref (.reply ⟨ref, 0x22, st, r⟩) before (n + 1) x) :
    ∃ t, answerHeld st r x = { x with tli := t } ∧ Grown 1 x.tli t ∧ t.directives = [] ∧
      Certifying s ref (.reply ⟨ref, 0x22, st, r⟩) before n { x with tli := t } := by
  have hnext : ∀ t, Grown 1 x.tli t → Answering ref (.reply ⟨ref, 0x22, st, r⟩) t →
      Certifying s ref (.reply ⟨ref, 0x22, st, r⟩) before n { x with tli := t } := fun t hg hl =>
    h.next (y := { x with tli := t }) hg (by decide) (fun _ _ => le_rfl) hl rfl rfl rfl rfl
  obtain ⟨g, hs⟩ := h.sending
  rcases h.line with ⟨hd, hx⟩ | ⟨hd, hx, hmem⟩
  · obtain ⟨hdirectives, hexecuting, -⟩ := offer_keeps x.tli.unqueued (.reply ⟨ref, 0x22, st, r⟩)
    have hgrown : Grown 1 x.tli (x.tli.unqueued.offer (.reply ⟨ref, 0x22, st, r⟩)) := by
      obtain ⟨hsending, hroom, hkept⟩ := grown_offer (t := x.tli.unqueued) hs (.reply ⟨ref, 0x22, st, r⟩)
      exact ⟨hsending, hroom, hkept⟩
    exact ⟨_, answerHeld_only st r hd hx, hgrown, hdirectives,
      hnext _ hgrown (.inr ⟨hdirectives, hexecuting, mem_offer (t := x.tli.unqueued) hs _ h.room_left⟩)⟩
  · have hgrown : Grown 1 x.tli x.tli := (Grown.refl _).mono (by decide)
    exact ⟨x.tli, if_neg (by rw [hx]; decide), hgrown, hd, hnext _ hgrown h.line⟩

/-- What the Verification Unit does at the end of an audit, before the trade status is judged (R151, R188). -/
def auditTaken (pass : Bool) (s : State) : State :=
  setSession none (if pass = true then rebaseZeros { s with vfu := { s.vfu with zeroLimitPending := false } } else s)

/-- The end of the session, as far as its own marks go (R188). -/
def Closed (s : State) (pass : Bool) (x : State) : Prop :=
  x.vfu.session = none ∧
    (pass = true → x.vfu.zeroLimitPending = false ∧ x.wge.decks = s.wge.decks.map (Option.map Deck.audited))

/-- What the end of the session leaves to the other blocks. -/
theorem auditTaken_keeps (pass : Bool) (s : State) :
    (auditTaken pass s).tli = s.tli ∧ (auditTaken pass s).stc = s.stc ∧ (auditTaken pass s).rnc = s.rnc ∧
      (auditTaken pass s).wge.decks.map (Option.map Deck.audited) = s.wge.decks.map (Option.map Deck.audited) := by
  cases pass with
  | true => exact ⟨rfl, rfl, rfl, audited_twice _⟩
  | false => exact ⟨rfl, rfl, rfl, rfl⟩

theorem auditTaken_closed {pass : Bool} (hd : x.wge.decks.map (Option.map Deck.audited) = s.wge.decks.map (Option.map Deck.audited)) :
    Closed s pass (auditTaken pass x) := by
  cases pass with
  | true => exact ⟨rfl, fun _ => ⟨rfl, hd⟩⟩
  | false => exact ⟨rfl, nofun⟩

/-- The end of the session, with the change of the trade status. -/
theorem certifying_closed {pass : Bool} (h : Certifying s ref reply before (n + 1) x) :
    Certifying s ref reply before n (auditClosed pass before x) ∧ (∃ k, Grown k x.tli (auditClosed pass before x).tli) ∧
      (auditClosed pass before x).tli.directives = x.tli.directives ∧ Closed s pass (auditClosed pass before x) := by
  obtain ⟨g, hs⟩ := h.sending
  obtain ⟨htli, hstc, hrnc, hdecks⟩ := auditTaken_keeps pass x
  have htaken : auditClosed pass before x = statusChange (if pass = true then .auditPass else .auditFail) before (auditTaken pass x) := rfl
  generalize hc : (if pass = true then TradeCause.auditPass else .auditFail) = cause at htaken
  obtain ⟨psu, queue, t, hwrites⟩ := statusChange_writes (s := auditTaken pass x) cause before
  obtain ⟨-, -, hdirectives, hexecuting⟩ :=
    silent_statusChange (c := cause) (b := before) (sameQueue_silent (auditTaken pass x)) (SameQueue.refl _)
  rw [htli] at hdirectives hexecuting
  obtain ⟨k, hk, hone, hgrown⟩ : ∃ k, k ≤ 3 ∧ (x.stc.fault = true → before = false → k ≤ 1) ∧
      Grown k x.tli (statusChange cause before (auditTaken pass x)).tli := by
    by_cases hspent : x.stc.fault = true ∧ before = false
    · refine ⟨0, by decide, fun _ _ => by decide, ?_⟩
      have hsame : statusChange cause before (auditTaken pass x) = auditTaken pass x :=
        if_pos (hspent.2 ▸ verified_of_fault (hstc ▸ hspent.1))
      rw [hsame, htli]
      exact Grown.refl _
    · refine ⟨3, le_rfl, fun hf hb => absurd ⟨hf, hb⟩ hspent, ?_⟩
      have hevents := grown_statusChange (s := auditTaken pass x) (cause := cause) (before := before) (htli ▸ hs)
      rwa [htli] at hevents
  have hclosed : Closed s pass (auditTaken pass x) := auditTaken_closed h.decks
  rw [htaken]
  refine ⟨h.next hgrown hk hone (h.line.grown hgrown hdirectives hexecuting) ?_ ?_ ?_ ?_, ⟨k, hgrown⟩, hdirectives, ?_⟩
  all_goals rw [hwrites]
  · exact show (auditTaken pass x).stc.fault = x.stc.fault by rw [hstc]
  · exact show (auditTaken pass x).stc.checking = x.stc.checking by rw [hstc]
  · exact hrnc
  · exact hdecks
  · exact hclosed

end

section
variable {s x : State} {now : Stamp} {ref : Byte} {record : Ticket} {a : AuditSummary} {slot mark : Nat} {pass before : Bool}

theorem replyCertificate_of (ha : record.body = .audit a) :
    replyCertificate record slot mark = answerHeld .done (.certificate record.number slot a mark) := by
  funext x
  simp only [replyCertificate, Ticket.summary, ha]

/-- The frame of CLOSE_AUDIT's reply (R188). -/
def certificateReply (ref : Byte) (record : Ticket) (a : AuditSummary) (slot mark : Nat) : Frame :=
  .reply ⟨ref, 0x22, .done, .certificate record.number slot a mark⟩

/-- The deliveries of a certificate, in any order (R151, R188, log 8). -/
theorem certificateDone_brings (ha : record.body = .audit a)
    (h : Certifying s ref (certificateReply ref record a slot mark) before 3 x) :
    Certifying s ref (certificateReply ref record a slot mark) before 0 (certificateDone record slot pass mark before x) ∧
      .ticket false slot record ∈ (certificateDone record slot pass mark before x).tli.classA ∧
      Closed s pass (certificateDone record slot pass mark before x) ∧
      (certificateDone record slot pass mark before x).tli.directives = [] := by
  let sent : State → State := offer (.ticket false slot record)
  let closed : State → State := auditClosed pass before
  let answered : State → State := answerHeld .done (.certificate record.number slot a mark)
  let P := Certifying s ref (certificateReply ref record a slot mark) before
  have hdone : certificateDone record slot pass mark before x = takeDeliveries 3 [sent, closed, answered] x := by
    rw [certificateDone, replyCertificate_of ha]
    rfl
  have hbrings : ∀ {Q : State → Prop} {b : State → State}, b ∈ [sent, closed, answered] → (∀ y, Q y → Q (delivered y)) →
      (∀ n y, P (n + 1) y → Q y → Q (sent y) ∧ Q (closed y) ∧ Q (answered y)) → (∀ n y, P (n + 1) y → Q (b y)) →
      P 0 (takeDeliveries 3 [sent, closed, answered] x) ∧ Q (takeDeliveries 3 [sent, closed, answered] x) := by
    intro Q b hb hdelivered hkeeps hbring
    refine takeDeliveries_brings (P := P) (b := b) (fun _ _ => certifying_delivered) hdelivered 3 _ x rfl ?_ (fun _ => hbring) h
      (.inl hb)
    simp only [List.forall_mem_cons]
    refine ⟨fun n y hy => ⟨(certifying_offer hy _).1, fun hq => (hkeeps n y hy hq).1⟩,
      fun n y hy => ⟨(certifying_closed hy).1, fun hq => (hkeeps n y hy hq).2.1⟩, fun n y hy => ⟨?_, fun hq => (hkeeps n y hy hq).2.2⟩, nofun⟩
    obtain ⟨t, ht, -, -, hnext⟩ := certifying_reply hy
    rw [show answered y = _ from ht]
    exact hnext
  rw [hdone]
  have hticket := hbrings (Q := fun y => .ticket false slot record ∈ y.tli.classA) (b := sent) (by simp) (fun _ hq => hq)
    (fun n y hy hq => by
      obtain ⟨-, hsent, -⟩ := certifying_offer hy (.ticket false slot record)
      obtain ⟨-, ⟨k, hclosed⟩, -⟩ := certifying_closed (pass := pass) hy
      obtain ⟨t, ht, hanswered, -⟩ := certifying_reply hy
      exact ⟨hsent.kept _ hq, hclosed.kept _ hq, by rw [show answered y = _ from ht]; exact hanswered.kept _ hq⟩)
    fun n y hy => (certifying_offer hy _).2.2
  have hclosed := hbrings (Q := Closed s pass) (b := closed) (by simp) (fun _ hq => hq)
    (fun n y hy hq => by
      obtain ⟨-, -, -, hclosed⟩ := certifying_closed (pass := pass) hy
      obtain ⟨t, ht, -⟩ := certifying_reply hy
      exact ⟨hq, hclosed, by rw [show answered y = _ from ht]; exact hq⟩)
    fun n y hy => (certifying_closed hy).2.2.2
  have hreplied := hbrings (Q := fun y => y.tli.directives = []) (b := answered) (by simp) (fun _ hq => hq)
    (fun n y hy hq => by
      obtain ⟨-, -, hdirectives, -⟩ := certifying_closed (pass := pass) hy
      obtain ⟨t, ht, -, hnone, -⟩ := certifying_reply hy
      exact ⟨(offer_keeps _ _).1.trans hq, hdirectives.trans hq, by rw [show answered y = _ from ht]; exact hnone⟩)
    fun n y hy => by
      obtain ⟨t, ht, -, hnone, -⟩ := certifying_reply hy
      rw [show answered y = _ from ht]
      exact hnone
  exact ⟨hticket.1, hticket.2, hclosed.2, hreplied.2⟩

/-- A status that is not VERIFIED afterwards is reported once at most. -/
theorem grown_statusLost {cause : TradeCause} {g : Frame} (hs : x.tli.sending = some g) (hv : x.verified = false) :
    Grown 1 x.tli (statusChange cause before x).tli := by
  cases before with
  | true =>
    rw [statusChange_lost hv]
    exact grown_offer hs _
  | false =>
    rw [show statusChange cause false x = x from if_pos hv]
    exact (Grown.refl _).mono (by decide)

/-- A certificate written, with the last number's use told (R140): what its deliveries begin from. -/
theorem certifying_written {u : Update} {g reply : Frame} (h : s.held ref .closeAudit) (hs : s.tli.sending = some g)
    (hroom : s.tli.classA.length ≤ 16) :
    let spent := spendNumbers s.verified (written u [] s)
    Certifying s ref reply (if spent.stc.fault = true then spent.verified else s.verified) 3 spent := by
  intro spent
  obtain ⟨⟨-, hc⟩, hd, hx⟩ := h
  by_cases hn : (decide ((written u [] s).stc.store.ticket.next = 0) && !(written u [] s).stc.fault) = true
  · let raised := raise (.storeFault .numbersSpent) { written u [] s with stc := { (written u [] s).stc with fault := true } }
    have hspent : spent = statusChange .storeFault s.verified raised := if_pos hn
    have hlost : raised.verified = false := verified_of_fault rfl
    have hraised : Grown 1 s.tli raised.tli := grown_offer hs _
    have hgrown : Grown 2 s.tli spent.tli := by
      rw [hspent]
      exact hraised.trans (grown_statusLost (hraised.sending.trans hs) hlost)
    obtain ⟨psu, queue, t, hwrites⟩ := statusChange_writes (s := raised) .storeFault s.verified
    have hfault : spent.stc.fault = true := by rw [hspent, hwrites]; rfl
    obtain ⟨-, -, hdirectives, hexecuting⟩ := silent_statusChange (c := .storeFault) (b := s.verified)
      (sameQueue_silent s) (s := raised) ((sameQueue_silent s).frame _ _ ⟨rfl, rfl, rfl, rfl⟩)
    rw [if_pos hfault, verified_of_fault hfault]
    refine ⟨⟨g, hgrown.sending.trans hs⟩, .inr ⟨hfault, rfl, ?_⟩, .inl ⟨?_, ?_⟩, ?_, ?_, ?_⟩
    · have := hgrown.room
      omega
    · rw [hspent]
      exact hdirectives.trans hd
    · rw [hspent]
      exact hexecuting.trans hx
    all_goals rw [hspent, hwrites]
    · exact hc
    · rfl
    · rfl
  · have hspent : spent = written u [] s := if_neg hn
    rw [hspent]
    exact ⟨⟨g, hs⟩, .inl (show s.tli.classA.length + 3 * 3 ≤ 25 by omega), .inl ⟨hd, hx⟩, hc, rfl, rfl⟩

/-- Once CLOSE_AUDIT has left the queue its reply stands in the class A queue. -/
theorem Certifying.replied {reply : Frame} {n : Nat} (h : Certifying s ref reply before n x) (hd : x.tli.directives = []) :
    reply ∈ x.tli.classA := by
  rcases h.line with ⟨hheld, -⟩ | ⟨-, -, hmem⟩
  · rw [hd] at hheld
    cases hheld
  · exact hmem

/-- A certificate's completion (R151, R188). -/
theorem completion_certificate {g : Frame} (h : s.held ref .closeAudit) (hr : s.rnc.runState ≠ .halting)
    (hq : s.stc.queue = [.certificate record pass mark]) (ha : record.body = .audit a) (hs : s.tli.sending = some g)
    (hroom : s.tli.classA.length ≤ 16) :
    ∃ t, exec (.storeUpdateComplete now) s = .next (refreshLights t) ∧ t.tli.directives = [] ∧
      .ticket false s.stc.store.ticket.fill record ∈ t.tli.classA ∧
      certificateReply ref record a s.stc.store.ticket.fill mark ∈ t.tli.classA ∧ Closed s pass t := by
  have hwritten := certifying_written (s := atTime now s) (u := .certificate record pass mark)
    (reply := certificateReply ref record a s.stc.store.ticket.fill mark) h hs hroom
  obtain ⟨hend, hticket, hclosed, hd⟩ := certificateDone_brings (pass := pass) ha hwritten
  have hdone : updateComplete (atTime now s) = certificateDone record s.stc.store.ticket.fill pass mark _ _ :=
    updateComplete_certificate (s := atTime now s) hq
  rw [← hdone] at hend hticket hclosed hd
  refine ⟨updateComplete (atTime now s), ?_, hd, hticket, hend.replied hd, hclosed⟩
  have hrun : haltGoesOn (updateComplete (atTime now s)) = updateComplete (atTime now s) := haltGoesOn_running (hend.rnc ▸ hr)
  refine (congrArg Host.Outcome.next (if_pos h.1.1)).trans ?_
  exact congrArg Host.Outcome.next ((congrArg finish hrun).trans (finish_idle hend.checking hd))

end

/-- Settles O59: the store by the update's own change, and then the completions kind by kind, each with its deliveries in every
order. -/
theorem updateCompletes : Obligations.UpdateCompletes := by
  unfold Obligations.UpdateCompletes
  intro asksAgain
  have hasks : ∀ {w : HoldReason} {p : Passage} {x : State},
      asksAgain w p x (judgeAfterRemoval { p with holds := dropHold w p.holds } x) := fun {w p x} =>
    ⟨judgeAfterRemoval_accepted, judgeAfterRemoval_notMade, fun v => judgeAfterRemoval_refused⟩
  refine ⟨fun s now u rest hp hq => ⟨_, rfl, ?_⟩, fun s now h hq hr => completion_calm h hr (SameQueue.refl s) (updateComplete_none (s := atTime now s) hq),
     ?_, ?_, ?_, ?_, ?_⟩
  · refine (completion_store hp hq rfl).trans ?_
    cases u with
    | ticket record change passage =>
      cases change with
      | remove tag =>
        simp only [Update.apply, TransactionArea.change, Option.isSome_iff_ne_none]
        rfl
      | insert e => rfl
      | keep => rfl
    | release number =>
      cases hi : s.stc.store.ticket.slotOf number <;> simp only [Update.apply, TicketArea.free, hi]
    | purge tag => simp only [Update.apply, TransactionArea.purge, Option.isSome_iff_ne_none]
    | certificate | commit | reason => rfl
  · intro s now ref number i h hr hq hi ring answered
    have hdone : updateComplete (atTime now s) =
        if i = s.stc.store.ticket.fill then waitEnded .ringBlocked (atTime now answered) else atTime now answered :=
      (updateComplete_frees (s := atTime now s) hq hi).trans (releaseDone_answered h)
    have hd : answered.tli.directives = [] := (offer_keeps _ _).1
    refine ⟨fun hnone => completion_answered h (t := answered) hr h.1.2 hd (hdone.trans ?_), fun p hfill hp hw => ⟨_, ?_, hasks⟩⟩
    · split
      · next hfill => exact waitEnded_unawaited (s := atTime now answered) (hnone.resolve_left (not_not.2 hfill))
      · rfl
    · exact completion_asks h (t := answered) hr h.1.2 hd hp hw (hdone.trans (if_pos hfill))
  · intro s now ref tag e h hr hq he area answered
    have hdone : updateComplete (atTime now s) =
        if roomMade s.stc.store (entryPurged tag s).stc.store = true then waitEnded .tableFull (atTime now answered)
        else atTime now answered :=
      (updateComplete_purges (s := atTime now s) hq he).trans (purgeDone_answered h)
    have hd : answered.tli.directives = [] := (offer_keeps _ _).1
    refine ⟨fun hnone => completion_answered h (t := answered) hr h.1.2 hd (hdone.trans ?_), fun p hfull hleft hp hw => ⟨_, ?_, hasks⟩⟩
    · split
      · next hmade =>
        exact waitEnded_unawaited (s := atTime now answered) (hnone.resolve_left (not_not.2 (roomMade_iff.1 hmade).1))
      · rfl
    · exact completion_asks h (t := answered) hr h.1.2 hd hp hw (hdone.trans (if_pos (roomMade_iff.2 ⟨hfull, hleft⟩)))
  · intro s now record e number p h hr hq hn st posted
    have hsame : ∀ {x : State}, SameQueue s x → ∀ f, SameQueue s (offer f x) := fun hx f => (sameQueue_silent s).frame f _ hx
    have hposted : ∀ {x : Psu} {n : Nat}, SameQueue s { posted with psu := x, freeCount := n } := ⟨rfl, rfl, rfl, rfl⟩
    refine ⟨fun hp => ?_, ?_, ?_⟩
    · have hidle : issueCompleted (some number) record.number (offer (.ticket false st.ticket.fill record) (atTime now posted)) =
          atTime now (offer (.ticket false st.ticket.fill record) posted) := by
        rw [issueCompleted]
        simp only [offer_psu, atTime_psu, show posted.psu.passage = none from hp]
        rfl
      refine completion_calm h (t := offer _ posted) hr (hsame hposted _) ((updateComplete_posts (s := atTime now s) hq hn).trans ?_)
      rw [show (atTime now s).psu.passage = none from hp]
      exact hidle
    · intro hp hi hnum hrun q after sent told
      subst hnum
      refine (updateComplete_either (s := atTime now s) (f := passagePosted record.number p) hq hn hp
        fun x hx _ => issueCompleted_stays (hx.trans hp) hi hrun).imp (fun ho => ?_) fun ho => ?_
      · exact completion_calm h (t := offer sent (offer told after)) hr (hsame (hsame hposted _) _) ho
      · exact completion_calm h (t := offer told (offer sent after)) hr (hsame (hsame hposted _) _) ho
    · intro hp hi hnum hrun hx q gone after sent told
      subst hnum
      refine (updateComplete_either (s := atTime now s) (f := passageGone record.number p) hq hn hp
        fun x hxp hxy => issueCompleted_leaves (hxp.trans hp) hi hrun (hxy ▸ hx)).imp (fun ho => ?_) fun ho => ?_
      · exact completion_calm h (t := offer sent (told after)) hr (hsame (hsame (hsame hposted _) _) _) ho
      · exact completion_calm h (t := told (offer sent after)) hr (hsame (hsame (hsame hposted _) _) _) ho
  · intro s now ref set entries h hr hq hreasons area k stored
    have hv : s.verified = false := by rwa [← Bool.not_eq_true, verified_iff]
    let t := delivered (delivered (setChanged s.setInUse true (commitTaken set entries s)))
    have ht : t = setChanged s.setInUse true (delivered (delivered (commitTaken set entries s))) := by
      rw [setChanged_delivered, setChanged_delivered]
    have htaken : t = { delivered (delivered (commitTaken set entries s)) with wge := t.wge, axm := t.axm } := by
      rw [ht]
      exact setChanged_eq ..
    have hheld : t.held ref .commitCal := by
      rw [htaken]
      exact h
    have hstc : t.stc = (commitTaken set entries s).stc := by rw [htaken]; rfl
    have hrnc : t.rnc = s.rnc := by rw [htaken]; rfl
    have hdone : updateComplete (atTime now s) = replyCommit k (atTime now t) :=
      (updateComplete_commits (s := atTime now s) hq hv).trans
        (congrArg (fun x => replyCommit k (delivered (delivered x))) (setChanged_atTime s.setInUse true now (commitTaken set entries s)))
    rw [replyCommit_held hheld] at hdone
    refine (completion_answered h (t := replyTo _ _ _ _ (freed t)) (hrnc ▸ hr) hheld.1.2 (offer_keeps _ _).1 hdone).trans ?_
    rw [State.unaudited, hstc, ht]
    rfl
  · intro s now ref record a pass mark g h hr hq ha hs hroom
    obtain ⟨t, hrun, hd, hticket, hreply, hsession, hpass⟩ := completion_certificate (now := now) h hr hq ha hs hroom
    exact ⟨_, hrun, hsession, hd, hticket, hreply, hpass⟩

/-! ## Failures -/

/-- STORE_FAULT alone is the reason of a part that had none (R174). -/
theorem reasonSet_storeFault {s : State} (h : s.reasonSet = []) :
    State.reasonSet { s with stc := { s.stc with fault := true, queue := [] } } = [.storeFault] := by
  simp only [State.reasonSet, allReasons, List.filter_eq_nil_iff, List.forall_mem_cons] at h
  obtain ⟨hnever, hchanged, hfailed, hzero, -, -⟩ := h
  simp only [Bool.not_eq_true] at hnever hchanged hfailed hzero
  simp only [State.reasonSet, allReasons, List.filter_cons, State.storedReasons] at hnever hchanged hfailed hzero ⊢
  simp only [hnever, hchanged, hfailed, hzero, List.filter_nil, if_true, Bool.false_eq_true, if_false]

/-- The fault flag set, with STORE_FAULT (R214). -/
def faultRaised (now : Stamp) (u : Update) (s : State) : State :=
  offer (.event now (.storeFault (.writeFailed u.producer))) { s with stc := { s.stc with fault := true, queue := [] } }

/-- The same with the change of the trade status. -/
def flagRaised (now : Stamp) (u : Update) (s : State) : State :=
  if s.reasonSet = [] then
    offer (.event now (.tradeStatusChanged false [.storeFault] s.vfu.zeroLimitPending .storeFault)) (faultRaised now u s)
  else faultRaised now u s

section
variable {s t : State} {now : Stamp} {u : Update} {rest : List Update} {ref : Byte} {d : Directive}

theorem setStoreFault_flag : setStoreFault u.producer (atTime now { s with stc := { s.stc with queue := [] } }) = atTime now (flagRaised now u s) := by
  have hlost : (atTime now (faultRaised now u s)).verified = false := verified_of_fault rfl
  rw [flagRaised]
  split
  · next h =>
    have hbefore : (atTime now { s with stc := { s.stc with queue := [] } }).verified = true := verified_iff.2 h
    rw [setStoreFault, hbefore]
    refine (statusChange_lost (s := atTime now (faultRaised now u s)) hlost).trans ?_
    rw [show (atTime now (faultRaised now u s)).reasonSet = [.storeFault] from reasonSet_storeFault h]
    rfl
  · next h =>
    have hbefore : (atTime now { s with stc := { s.stc with queue := [] } }).verified = false := by
      rw [← Bool.not_eq_true, verified_iff]
      exact h
    rw [setStoreFault, hbefore]
    exact if_pos hlost

/-- What the flag and its events leave as it was: the lines, the directive queue, the passage, the run state, calibration mode and the
store. -/
structure Flagged (s f : State) : Prop where
  powered : f.powered = s.powered
  line : SameQueue s f
  psu : f.psu = s.psu
  rnc : f.rnc = s.rnc
  clu : f.clu = s.clu
  store : f.stc.store = s.stc.store

theorem flagRaised_flagged (now : Stamp) (u : Update) (s : State) : Flagged s (flagRaised now u s) := by
  have hfault : SameQueue s (faultRaised now u s) := (sameQueue_silent s).frame _ _ ⟨rfl, rfl, rfl, rfl⟩
  rw [flagRaised]
  split
  · exact ⟨rfl, (sameQueue_silent s).frame _ _ hfault, rfl, rfl, rfl, rfl⟩
  · exact ⟨rfl, hfault, rfl, rfl, rfl, rfl⟩

/-- The failure of the oldest update: the flag, and then every update in turn (R214). -/
theorem updatesFail_flag (hq : s.stc.queue = u :: rest) :
    updatesFail (atTime now s) = rest.foldl (fun s u => updateFailed u s) (updateFailed u (atTime now (flagRaised now u s))) := by
  rw [← setStoreFault_flag]
  simp only [updatesFail, atTime_stc, hq]
  rfl

theorem updatesFail_none (hq : s.stc.queue = []) : updatesFail s = s := by
  simp only [updatesFail, hq]

/-- A failed update leaves the store whole, the flag set and no update in flight (R214). -/
theorem updatesFail_keeps (hq : s.stc.queue = u :: rest) : (updatesFail s).stc.store = s.stc.store ∧ (updatesFail s).failed := by
  let base : State := { s with stc := { s.stc with fault := true, queue := [] } }
  have hflag : Keeps base (setStoreFault u.producer { s with stc := { s.stc with queue := [] } }) :=
    silent_statusChange (keeps_silent base) (keeps_raise (Keeps.refl base))
  have hkept : Keeps base (updatesFail s) := by
    simp only [updatesFail, hq]
    exact keeps_updatesFailed (u :: rest) hflag
  exact ⟨hkept.store, hkept.failed ⟨rfl, rfl⟩⟩

/-- A failure that leaves the directive queue alone. -/
theorem failure_calm (h : s.calm) (hr : t.rnc.runState ≠ .halting) (hq : SameQueue s t)
    (hu : updatesFail (atTime now s) = atTime now t) : exec (.storeUpdateFailed now) s = .next (taken now t) := by
  obtain ⟨-, hc, hd, hx⟩ := hq
  exact handle_calm (effect := fun s => haltGoesOn (updatesFail s)) h ((congrArg haltGoesOn hu).trans (haltGoesOn_running hr))
    (hc.trans h.1.2) hd hx

/-- A failure that answers the directive that holds the queue. -/
theorem failure_answered (h : s.held ref d) (ht : t.held ref d) (hr : t.rnc.runState ≠ .halting)
    (hu : updatesFail (atTime now s) = answerHeld .storeFault .nothing (atTime now t)) :
    exec (.storeUpdateFailed now) s = .next (replied now ref d.code .storeFault .nothing (freed t)) := by
  refine handle_answered (effect := fun s => haltGoesOn (updatesFail s)) h ht ?_
  rw [hu, answerHeld_atTime ht]
  exact haltGoesOn_running (s := atTime now (replyTo _ _ _ _ (freed t))) hr

end

section
variable {s : State} {p : Passage}

/-- A ticket whose passage RESTART has ended tells no one (log 17). -/
theorem issueFailed_orphaned : issueFailed none s = s := by
  rw [issueFailed]
  split
  · exact if_neg (by simp)
  · rfl

/-- The passage whose issue has failed (R124). -/
def Passage.unissued (p : Passage) : Passage := { p with state := .captured, holds := addHold .storeFault p.holds }

theorem issueFailed_of (hp : s.psu.passage = some p) (hi : p.state = .issuing) :
    issueFailed (some p.number) s =
      if p.runThrough = true then toLeaving .runThrough none p s
      else report (some .issuing) (some .captured) .issueFailed none p.unissued (setPassage p.unissued s) := by
  simp only [issueFailed, hp]
  exact if_pos (by simp [hi])

/-- LEAVING, with the exit loop accepted clear: the passage leaves at once (R113). -/
theorem toLeaving_leaves {cause : PassageCause} {stamp : Option Stamp} (hi : p.state = .issuing)
    (hx : s.ylu.exitLoop.accepted = some false) (he : s.ylu.entryLoop.accepted ≠ some true) :
    toLeaving cause stamp p s =
      report (some .leaving) none .left stamp { p with state := .leaving }
        (State.vacated (report (some .issuing) (some .leaving) cause stamp { p with state := .leaving }
          (setPassage { p with state := .leaving } (stopCaptureTimer s)))) := by
  have hclear : (s.ylu.exitLoop.accepted == some false) = true := beq_iff_eq.2 hx
  simp only [toLeaving, hi]
  exact (if_pos hclear).trans (passageLeft_idle rfl (.inl he))

end

section
variable {s f : State} {now : Stamp} {p : Passage} {ref : Byte}

/-- The passage is back in CAPTURED (R144). -/
def issueReturned (p : Passage) (psu : Psu) (f : State) : State :=
  report (some .issuing) (some .captured) .issueFailed none p.unissued { f with psu := { psu with passage := some p.unissued } }

theorem issueFailed_returns (hf : Flagged s f) (hp : s.psu.passage = some p) (hi : p.state = .issuing) (hr : p.runThrough = false) :
    issueFailed (some p.number) (atTime now f) = atTime now (issueReturned p s.psu f) := by
  refine (issueFailed_of (s := atTime now f) (hf.psu ▸ hp) hi).trans ((if_neg (by rw [hr]; decide)).trans ?_)
  rw [← hf.psu]
  rfl

theorem issueReturned_line (hf : Flagged s f) : SameQueue s (issueReturned p s.psu f) :=
  silent_report (sameQueue_silent s) ((sameQueue_silent s).psu _ _ hf.line)

/-- The part with the passage in LEAVING, reported. -/
def issueLeft (p : Passage) (psu : Psu) (f : State) : State :=
  report (some .issuing) (some .leaving) .runThrough none { p with state := .leaving } { f with psu := psu }

theorem issueFailed_stays (hf : Flagged s f) (hp : s.psu.passage = some p) (hi : p.state = .issuing) (hr : p.runThrough = true)
    (hx : s.ylu.exitLoop.accepted ≠ some false) :
    issueFailed (some p.number) (atTime now f) =
      atTime now (issueLeft p { s.psu with passage := some { p with state := .leaving }, captureTimer := none } f) := by
  obtain ⟨-, ⟨hylu, -⟩, hpsu, -⟩ := hf
  refine (issueFailed_of (s := atTime now f) (hpsu ▸ hp) hi).trans ((if_pos hr).trans ?_)
  refine (toLeaving_stays (s := atTime now f) (show f.ylu.exitLoop.accepted ≠ some false by rwa [hylu])).trans ?_
  rw [hi, ← hpsu]
  rfl

theorem issueFailed_leaves (hf : Flagged s f) (hp : s.psu.passage = some p) (hi : p.state = .issuing) (hr : p.runThrough = true)
    (hx : s.ylu.exitLoop.accepted = some false) (he : s.ylu.entryLoop.accepted ≠ some true) :
    issueFailed (some p.number) (atTime now f) =
      atTime now (report (some .leaving) none .left none { p with state := .leaving }
        (issueLeft p { s.psu with passage := none, captureTimer := none } { f with axm := .cleared })) := by
  obtain ⟨-, ⟨hylu, -⟩, hpsu, -⟩ := hf
  refine (issueFailed_of (s := atTime now f) (hpsu ▸ hp) hi).trans ((if_pos hr).trans ?_)
  refine (toLeaving_leaves (s := atTime now f) hi (show f.ylu.exitLoop.accepted = some false by rwa [hylu])
    (show f.ylu.entryLoop.accepted ≠ some true by rwa [hylu])).trans ?_
  rw [← hpsu]
  rfl

theorem issueLeft_line {psu : Psu} {axm : Axm} (hf : Flagged s f) : SameQueue s (issueLeft p psu { f with axm := axm }) :=
  silent_report (sameQueue_silent s) ((sameQueue_silent s).psu _ _ ((sameQueue_silent s).axm _ _ hf.line))

theorem SameQueue.trans {a b c : State} (h : SameQueue a b) (h' : SameQueue b c) : SameQueue a c :=
  ⟨h'.1.trans h.1, h'.2.1.trans h.2.1, h'.2.2.1.trans h.2.2.1, h'.2.2.2.trans h.2.2.2⟩

theorem flagged_held {d : Directive} (hs : s.held ref d) (hf : SameQueue s f) (hp : f.powered = s.powered) : f.held ref d := by
  obtain ⟨⟨hpower, hchecking⟩, hd, hx⟩ := hs
  obtain ⟨-, hc, hdirectives, hexecuting⟩ := hf
  exact ⟨⟨hp.trans hpower, hc.trans hchecking⟩, hdirectives.trans hd, hexecuting.trans hx⟩

/-- A commit that fails with the switch accepted closed keeps calibration mode (R165). -/
theorem commitFailed_closed (hc : f.ylu.calSwitch.accepted = some true) :
    commitFailed (atTime now f) = answerHeld .storeFault .nothing (atTime now { f with clu := { f.clu with openingRecorded := false } }) := by
  have hclosed : (f.ylu.calSwitch.accepted == some true) = true := beq_iff_eq.2 hc
  exact congrArg (answerHeld .storeFault .nothing) (if_pos hclosed)

/-- The end of calibration mode at a failed commit, with its event. -/
def modeEnded (now : Stamp) (staged : CalSet) (f : State) : State :=
  offer (.event now (.calSwitchOpened (changedParams staged f.committed).length)) (setChanged staged true (withStaged none f))

/-- What the end of calibration mode leaves as it was. -/
theorem modeEnded_keeps (now : Stamp) (staged : CalSet) (f : State) :
    SameQueue f (modeEnded now staged f) ∧ (modeEnded now staged f).powered = f.powered ∧ (modeEnded now staged f).rnc = f.rnc := by
  have hstaged : SameQueue f (withStaged none f) := ⟨rfl, rfl, rfl, rfl⟩
  refine ⟨(sameQueue_silent f).frame _ _ (sameQueue_setChanged hstaged), ?_, ?_⟩
  all_goals
    rw [modeEnded, setChanged_eq]
    rfl

/-- Otherwise it ends it. -/
theorem commitFailed_open {staged : CalSet} (hc : f.ylu.calSwitch.accepted ≠ some true) (hm : f.clu.staged = some staged) :
    commitFailed (atTime now f) = answerHeld .storeFault .nothing (atTime now (modeEnded now staged f)) := by
  have hopen : ¬ (f.ylu.calSwitch.accepted == some true) = true := fun h => hc (beq_iff_eq.1 h)
  refine congrArg (answerHeld .storeFault .nothing) ((if_neg hopen).trans ((calSwitchOpened_staged (s := atTime now f) hm).trans ?_))
  rw [show withStaged none (atTime now f) = atTime now (withStaged none f) from rfl, setChanged_atTime]
  rfl

end

/-- Settles O60: the flag and its events first, and then each producer told in turn. -/
theorem updateFails : Obligations.UpdateFails := by
  refine ⟨fun s now u rest hp hq => ?_, fun s now h hq hr => failure_calm h hr (SameQueue.refl s) (updatesFail_none (s := atTime now s) hq), ?_⟩
  · obtain ⟨hstore, hfailed⟩ := updatesFail_keeps (s := atTime now s) hq
    have hk : Keeps (updatesFail (atTime now s)) (finish (haltGoesOn (updatesFail (atTime now s)))) :=
      keeps_finish (keeps_haltGoesOn (Keeps.refl _))
    obtain ⟨hfault, hqueue⟩ := hk.failed hfailed
    exact ⟨_, congrArg Host.Outcome.next (if_pos hp), hk.store.trans hstore, hfault, hqueue⟩
  · intro s now u rest h hr hq run fault flagged told back
    have hf : Flagged s flagged := flagRaised_flagged now u s
    have hfail : updatesFail (atTime now s) = rest.foldl (fun s u => updateFailed u s) (updateFailed u (atTime now flagged)) :=
      updatesFail_flag hq
    clear_value flagged
    have hrun : flagged.rnc.runState ≠ .halting := hf.rnc ▸ hr
    refine ⟨fun record change hu hrest => ?_, fun record change p hu hp hi => ?_, fun ref d hh hrest hu => ?_,
      fun ref set entries hh hrest hu => ?_⟩
    · subst hrest
      refine failure_calm h hrun hf.line (hfail.trans ?_)
      rcases hu with rfl | rfl
      · rfl
      · exact issueFailed_orphaned
    · subst hu
      have hback : issueReturned p s.psu flagged = back p := rfl
      refine ⟨fun hrest hthrough => ?_, fun ref number hrest hh hthrough => ?_, ?_⟩
      · subst hrest
        rw [← hback]
        exact failure_calm h (t := issueReturned p s.psu flagged) hrun (issueReturned_line hf)
          (hfail.trans (issueFailed_returns hf hp hi hthrough))
      · subst hrest
        rw [← hback]
        exact failure_answered (d := .releaseTicket number) hh (t := issueReturned p s.psu flagged) (flagged_held hh (issueReturned_line hf) hf.powered) hrun
          (hfail.trans (congrArg (answerHeld .storeFault .nothing) (issueFailed_returns hf hp hi hthrough)))
      · intro hrest hthrough q away
        subst hrest
        refine ⟨fun hexit => ?_, fun hexit hentry => ?_⟩
        · exact failure_calm h (t := issueLeft p _ flagged) hrun (issueLeft_line hf) (hfail.trans (issueFailed_stays hf hp hi hthrough hexit))
        · exact failure_calm h (t := report _ _ _ _ _ (issueLeft p _ { flagged with axm := .cleared })) hrun
            (silent_report (sameQueue_silent s) (issueLeft_line hf)) (hfail.trans (issueFailed_leaves hf hp hi hthrough hexit hentry))
    · subst hrest
      have hanswers : updateFailed u (atTime now flagged) = answerHeld .storeFault .nothing (atTime now flagged) := by
        rcases hu with ⟨number, -, rfl⟩ | ⟨tag, -, rfl⟩ | ⟨-, record, pass, mark, rfl⟩ <;> rfl
      exact failure_answered (d := d) hh (flagged_held hh hf.line hf.powered) hrun (hfail.trans hanswers)
    · subst hrest hu
      refine ⟨fun hclosed => ?_, fun staged hopen hstaged => ?_⟩
      · have hended := commitFailed_closed (now := now) (f := flagged) (hf.line.1 ▸ hclosed)
        rw [hf.clu] at hended
        exact failure_answered (d := .commitCal) hh (flagged_held (f := { flagged with clu := _ }) hh hf.line hf.powered) hrun
          (hfail.trans hended)
      · have hended := commitFailed_open (now := now) (f := flagged) (hf.line.1 ▸ hopen) (hf.clu ▸ hstaged)
        obtain ⟨hline, hpowered, hrnc⟩ := modeEnded_keeps now staged flagged
        have hcommitted : flagged.committed = s.committed := congrArg (fun st => st.calibration.set) hf.store
        have hanswered := failure_answered (d := .commitCal) hh
          (flagged_held hh (hf.line.trans hline) (hpowered.trans hf.powered)) (hrnc ▸ hrun) (hfail.trans hended)
        rw [modeEnded, hcommitted] at hanswered
        exact hanswered

end Sys2Proof.Machine
end
